-- ==== Sys2Proof/Word.lean ====
section
/-! DEFINITION. The plain word types of the EQ16: link bytes, axis sets and index types. -/

namespace Sys2Proof

/-- One link byte (spec/12, Characters and the check). -/
abbrev Byte := BitVec 8

/-- An axis set as the link carries it: bit n stands for axis n (spec/12, Bit sets). -/
abbrev AxisSet := BitVec 16

/-- An axis index, 0 to 15 (spec/00, Numbering and addresses). -/
abbrev AxisIdx := Fin 16

/-- A table id, 0 to 63 (spec/00, Numbering and addresses). -/
abbrev TableId := Fin 64

/-- A knot: a lane time τ in lane µs and an angle A in au (R57). -/
structure Knot where
  time : Int
  angle : Int
deriving DecidableEq, Repr, Inhabited

/-- A segment header: table id, place within the table, knot count (1 to 63) and final flag (R57). -/
structure Header where
  table : TableId
  sequence : Fin 16
  count : Nat
  final : Bool
deriving DecidableEq, Repr, Inhabited

end Sys2Proof
end

