-- ==== Sys2Proof/Syntax.lean ====
section
/-! DEFINITION. The commands of the EQ16: one constructor of `Instr` for each row of
spec/opcode_table.json, with the operands the row's rule gives it. Operands that travel on the
Show Link are bit vectors of the size R177 reads them at; operands of line and memory events are
what the event carries. -/

namespace Sys2Proof

/-- Where a request comes from: addressed to this unit (answered by a reply) or broadcast (never
answered); R165. -/
inductive Origin
  | addressed | broadcast
deriving DecidableEq, Repr

/-- The level of a line. -/
inductive Level
  | low | high
deriving DecidableEq, Repr

/-- A level as a bit. -/
def Level.isHigh : Level → Bool
  | .low => false
  | .high => true

/-- The four switch inputs of an axis (R125). -/
inductive InputKind
  | home | limPos | limNeg | drvFault
deriving DecidableEq, Repr

/-- The two end stop inputs (R103). -/
inductive EndStop
  | limPos | limNeg
deriving DecidableEq, Repr

/-- The lines that pass through a filter of Sense Inputs (R15, R125). -/
inductive FilterLine
  | axisInput (axis : AxisIdx) (input : InputKind)
  | holdLine
  | haltLine
deriving DecidableEq, Repr

/-- One character of the Show Link: eight data bits, the mark bit and whether the stop bit is good
(R161). -/
structure LinkChar where
  data : Byte
  mark : Bool
  goodStop : Bool
deriving DecidableEq, Repr

/-- A knot as a STAGE_KNOTS request carries it: τ and A, eight bytes each (R65, spec/12). -/
structure KnotField where
  time : BitVec 64
  angle : BitVec 64
deriving DecidableEq, Repr

/-- The fields of an AXIS_MOTION_CONFIG request after the axis, as sent (R94, spec/12). -/
structure MotionFields where
  kind : Byte
  steps : BitVec 32
  lane : Byte
  vmax : BitVec 16
  amax : BitVec 16
  backlash : BitVec 16
  softMin : BitVec 64
  softMax : BitVec 64
  lagLimit : BitVec 32
  holdResponse : Byte
  parkMode : Byte
deriving DecidableEq, Repr

/-- One byte for each of the four switch inputs, in the order HOME, LIM_POS, LIM_NEG, DRV_FAULT
(spec/12). -/
structure InputBytes where
  home : Byte
  limPos : Byte
  limNeg : Byte
  drvFault : Byte
deriving DecidableEq, Repr

/-- The fields of an AXIS_SENSE_CONFIG request after the axis, as sent (R113, R133, spec/12). -/
structure SenseFields where
  encoderMode : Byte
  invert : Byte
  counts : BitVec 32
  followLimit : BitVec 32
  homeMode : Byte
  homeDirection : Byte
  homeSpeed : BitVec 16
  travelLimit : BitVec 32
  homeOffset : BitVec 64
  activeLevels : InputBytes
  windows : InputBytes
deriving DecidableEq, Repr

/-- The four payload layouts AXIS_LAW may have after the axis and the law kind (R177). The law kind
byte stands beside the layout, so a size that is not the size of the named kind can be written. -/
inductive LawBody
  | empty
  | linear (phase rate epoch : BitVec 64)
  | table (id : Byte) (offset : BitVec 64)
  | coupled (source : Byte) (numerator denominator : BitVec 32) (phase : BitVec 64)
deriving DecidableEq, Repr

/-- What a CLEAR names (R172, spec/12, Bit sets). -/
structure ClearFields where
  unitCauses : Byte
  axisFault : AxisSet
  capture : AxisSet
  limit : AxisSet
  counters : Byte
  glitch : AxisSet
deriving DecidableEq, Repr

/-- The requests a cue may embed (R151). -/
inductive CueRequest
  | skySet (value : BitVec 64)
  | showSet (value : BitVec 64)
  | skyRate (endRate : BitVec 64) (length : BitVec 16)
  | hold
  | release
  | axisLaw (axis kind : Byte) (body : LawBody)
  | enable (axis : Byte)
  | disable (axis : Byte)
  | track (axis : Byte)
  | stop (axis : Byte)
  | move (axis : Byte) (endPosition arrival : BitVec 64)
  | flush (axis : Byte)
deriving DecidableEq, Repr

/-- A request whose kind is known and whose payload has that kind's size (R165). The straps of
UNIT_RESET are the strap levels at the moment of the request (R163, R174). -/
inductive Request
  | cueable (request : CueRequest)
  | run
  | sync
  | unitSettings (suspendPolicy haltsOnHold holdWindow haltWindow : Byte)
  | unitReset (straps : BitVec 5)
  | axisMotionConfig (axis : Byte) (fields : MotionFields)
  | axisSenseConfig (axis : Byte) (fields : SenseFields)
  | home (axis : Byte)
  | faultAck (axis : Byte)
  | cue (time : BitVec 64) (tag kind : Byte) (payload : List Byte)
  | cueCancel (tag : Byte)
  | stageHeader (table sequence count final : Byte)
  | stageKnots (first : Byte) (knots : List KnotField)
  | stageClear
  | commit (segment : BitVec 16) (eraseOnly : Byte)
  | abortRewrite
  | statusQuery (page part : Byte)
  | axisQuery (axis page part : Byte)
  | tableQuery (table part : Byte)
  | segmentQuery (segment : BitVec 16)
  | clear (fields : ClearFields)
deriving DecidableEq, Repr

/-- The commands of the block, one constructor for each row of spec/opcode_table.json, in the table's
order. A request constructor is the arrival of that request at the Link Port (R165); an event
constructor is the event of that name. -/
inductive Instr
  | powerOnReset (straps : BitVec 5)
  | powerLoss
  | startUpScanCompletion
  | laneUpdate
  | showInCharacter (c : LinkChar)
  | frameEnd (straps : BitVec 5)
  | run (o : Origin)
  | sync (o : Origin)
  | hold (o : Origin)
  | release (o : Origin)
  | skySet (o : Origin) (value : BitVec 64)
  | showSet (o : Origin) (value : BitVec 64)
  | skyRate (o : Origin) (endRate : BitVec 64) (length : BitVec 16)
  | unitSettings (o : Origin) (suspendPolicy haltsOnHold holdWindow haltWindow : Byte)
  | unitReset (o : Origin) (straps : BitVec 5)
  | axisMotionConfig (o : Origin) (axis : Byte) (fields : MotionFields)
  | axisSenseConfig (o : Origin) (axis : Byte) (fields : SenseFields)
  | axisLaw (o : Origin) (axis kind : Byte) (body : LawBody)
  | enable (o : Origin) (axis : Byte)
  | disable (o : Origin) (axis : Byte)
  | home (o : Origin) (axis : Byte)
  | track (o : Origin) (axis : Byte)
  | stop (o : Origin) (axis : Byte)
  | move (o : Origin) (axis : Byte) (endPosition arrival : BitVec 64)
  | flush (o : Origin) (axis : Byte)
  | faultAck (o : Origin) (axis : Byte)
  | cue (o : Origin) (time : BitVec 64) (tag kind : Byte) (payload : List Byte)
  | cueCancel (o : Origin) (tag : Byte)
  | stageHeader (o : Origin) (table sequence count final : Byte)
  | stageKnots (o : Origin) (first : Byte) (knots : List KnotField)
  | stageClear (o : Origin)
  | commit (o : Origin) (segment : BitVec 16) (eraseOnly : Byte)
  | abortRewrite (o : Origin)
  | statusQuery (o : Origin) (page part : Byte)
  | axisQuery (o : Origin) (axis page part : Byte)
  | tableQuery (o : Origin) (table part : Byte)
  | segmentQuery (o : Origin) (segment : BitVec 16)
  | clear (o : Origin) (fields : ClearFields)
  | returnInCharacter (c : LinkChar)
  | returnInIdle
  | gapEnd
  | bufferedCharacterSent
  | ownReplyStart
  | ownReplyEnd (straps : BitVec 5)
  | holdLineAcceptance (level : Level)
  | haltLineAcceptance (level : Level)
  | homeAcceptance (axis : AxisIdx) (level : Level)
  | limitAcceptance (axis : AxisIdx) (stop : EndStop) (level : Level)
  | drvFaultAcceptance (axis : AxisIdx) (level : Level)
  | encoderTransition (axis : AxisIdx) (encA encB : Level)
  | indexEvent (axis : AxisIdx) (encI : Level)
  | knotReadGrant
  | knotReadCompletion
  | suspendAcknowledge
  | eraseCompletion
  | programCompletion (verified : Bool)
  | abortCompletion
  | stepPulseBegin (axis : AxisIdx)
  | stepPulseEnd (axis : AxisIdx)
  | filterSample (line : FilterLine) (level : Level)
  | resetLineAsserted
deriving DecidableEq, Repr

end Sys2Proof
end

