-- ==== Sys2Proof/Decode.lean ====
section
/-! DEFINITION. What the words of a request stand for. The rows of spec/opcode_table.json carry no
bits, so `decodeTableWord` reads none. The Show Link's own words are read here: a kind code and a
payload give a request (spec/12, Request kinds; R165, R177), and the encoder writes them. -/

namespace Sys2Proof

/-! ### Bytes, most significant first -/

/-- The two bytes of a field. -/
def bytes16 (x : BitVec 16) : List Byte := [x.extractLsb' 8 8, x.extractLsb' 0 8]

/-- The four bytes of a field. -/
def bytes32 (x : BitVec 32) : List Byte := bytes16 (x.extractLsb' 16 16) ++ bytes16 (x.extractLsb' 0 16)

/-- The eight bytes of a field. -/
def bytes64 (x : BitVec 64) : List Byte := bytes32 (x.extractLsb' 32 32) ++ bytes32 (x.extractLsb' 0 32)

/-! ### Reading a payload, field by field -/

/-- A one-byte field and the bytes after it. -/
def read8 : List Byte → Option (Byte × List Byte)
  | a :: rest => some (a, rest)
  | [] => none

/-- A two-byte field and the bytes after it. -/
def read16 : List Byte → Option (BitVec 16 × List Byte)
  | a :: b :: rest => some (a ++ b, rest)
  | [_] | [] => none

/-- A four-byte field and the bytes after it. -/
def read32 (p : List Byte) : Option (BitVec 32 × List Byte) := do
  let (high, p) ← read16 p
  let (low, p) ← read16 p
  some (high ++ low, p)

/-- An eight-byte field and the bytes after it. -/
def read64 (p : List Byte) : Option (BitVec 64 × List Byte) := do
  let (high, p) ← read32 p
  let (low, p) ← read32 p
  some (high ++ low, p)

/-- `x`, when the payload ends here. -/
def readEnd {α : Type} (x : α) : List Byte → Option α
  | [] => some x
  | _ :: _ => none

/-! ### Payloads -/

/-- A payload of one eight-byte field. -/
def decode64 (p : List Byte) : Option (BitVec 64) := do
  let (x, p) ← read64 p
  readEnd x p

/-- A payload of one byte. -/
def decode8 (p : List Byte) : Option Byte := do
  let (x, p) ← read8 p
  readEnd x p

/-- A payload of two bytes, each a field. -/
def decode8x2 (p : List Byte) : Option (Byte × Byte) := do
  let (x, p) ← read8 p
  let (y, p) ← read8 p
  readEnd (x, y) p

/-- A payload of three bytes, each a field. -/
def decode8x3 (p : List Byte) : Option (Byte × Byte × Byte) := do
  let (x, p) ← read8 p
  let (y, p) ← read8 p
  let (z, p) ← read8 p
  readEnd (x, y, z) p

/-- A payload of four bytes, each a field. -/
def decode8x4 (p : List Byte) : Option (Byte × Byte × Byte × Byte) := do
  let (x, p) ← read8 p
  let (y, p) ← read8 p
  let (z, p) ← read8 p
  let (w, p) ← read8 p
  readEnd (x, y, z, w) p

/-- A payload of one two-byte field. -/
def decode16 (p : List Byte) : Option (BitVec 16) := do
  let (x, p) ← read16 p
  readEnd x p

/-- SKY_RATE: end rate (8), L (2). -/
def decodeSkyRate (p : List Byte) : Option (BitVec 64 × BitVec 16) := do
  let (rate, p) ← read64 p
  let (length, p) ← read16 p
  readEnd (rate, length) p

/-- MOVE: axis (1), Pe (8), Te (8). -/
def decodeMove (p : List Byte) : Option (Byte × BitVec 64 × BitVec 64) := do
  let (axis, p) ← read8 p
  let (position, p) ← read64 p
  let (arrival, p) ← read64 p
  readEnd (axis, position, arrival) p

/-- The law layout of a payload's rest, told by its size: 0, 9, 17 or 24 bytes after the axis and the
law kind (R177). -/
def decodeLawBody (p : List Byte) : Option LawBody :=
  match p.length with
  | 0 => some .empty
  | 9 => do
    let (id, p) ← read8 p
    let (offset, p) ← read64 p
    readEnd (.table id offset) p
  | 17 => do
    let (source, p) ← read8 p
    let (numerator, p) ← read32 p
    let (denominator, p) ← read32 p
    let (phase, p) ← read64 p
    readEnd (.coupled source numerator denominator phase) p
  | 24 => do
    let (phase, p) ← read64 p
    let (rate, p) ← read64 p
    let (epoch, p) ← read64 p
    readEnd (.linear phase rate epoch) p
  | _ => none

/-- AXIS_LAW: axis (1), law kind (1), then one of the four layouts (R177). -/
def decodeAxisLaw (p : List Byte) : Option (Byte × Byte × LawBody) := do
  let (axis, p) ← read8 p
  let (kind, p) ← read8 p
  let body ← decodeLawBody p
  some (axis, kind, body)

/-- AXIS_MOTION_CONFIG, 35 bytes. -/
def decodeMotion (p : List Byte) : Option (Byte × MotionFields) := do
  let (axis, p) ← read8 p
  let (kind, p) ← read8 p
  let (steps, p) ← read32 p
  let (lane, p) ← read8 p
  let (vmax, p) ← read16 p
  let (amax, p) ← read16 p
  let (backlash, p) ← read16 p
  let (softMin, p) ← read64 p
  let (softMax, p) ← read64 p
  let (lagLimit, p) ← read32 p
  let (holdResponse, p) ← read8 p
  let (parkMode, p) ← read8 p
  readEnd (axis, { kind, steps, lane, vmax, amax, backlash, softMin, softMax, lagLimit, holdResponse,
                   parkMode }) p

/-- Four one-byte fields, in the order HOME, LIM_POS, LIM_NEG, DRV_FAULT. -/
def readInputs (p : List Byte) : Option (InputBytes × List Byte) := do
  let (home, p) ← read8 p
  let (limPos, p) ← read8 p
  let (limNeg, p) ← read8 p
  let (drvFault, p) ← read8 p
  some ({ home, limPos, limNeg, drvFault }, p)

/-- AXIS_SENSE_CONFIG, 35 bytes. -/
def decodeSense (p : List Byte) : Option (Byte × SenseFields) := do
  let (axis, p) ← read8 p
  let (encoderMode, p) ← read8 p
  let (invert, p) ← read8 p
  let (counts, p) ← read32 p
  let (followLimit, p) ← read32 p
  let (homeMode, p) ← read8 p
  let (homeDirection, p) ← read8 p
  let (homeSpeed, p) ← read16 p
  let (travelLimit, p) ← read32 p
  let (homeOffset, p) ← read64 p
  let (activeLevels, p) ← readInputs p
  let (windows, p) ← readInputs p
  readEnd (axis, { encoderMode, invert, counts, followLimit, homeMode, homeDirection, homeSpeed,
                   travelLimit, homeOffset, activeLevels, windows }) p

/-- `n` knots, each τ (8) then A (8), and the end of the payload. -/
def decodeKnots : Nat → List Byte → Option (List KnotField)
  | 0, p => readEnd [] p
  | n + 1, p => do
    let (time, p) ← read64 p
    let (angle, p) ← read64 p
    let rest ← decodeKnots n p
    some ({ time, angle } :: rest)

/-- STAGE_KNOTS: first slot (1), one to three knots; 17, 33 or 49 bytes (R65, R165). -/
def decodeStageKnots (p : List Byte) : Option (Byte × List KnotField) := do
  let (first, rest) ← read8 p
  let knots ← match rest.length with
    | 16 => decodeKnots 1 rest
    | 32 => decodeKnots 2 rest
    | 48 => decodeKnots 3 rest
    | _ => none
  some (first, knots)

/-- COMMIT: segment (2), erase-only (1). -/
def decodeCommit (p : List Byte) : Option (BitVec 16 × Byte) := do
  let (segment, p) ← read16 p
  let (eraseOnly, p) ← read8 p
  readEnd (segment, eraseOnly) p

/-- CLEAR: unit causes (1), three axis sets (2 each), counters (1), glitch count axes (2). -/
def decodeClear (p : List Byte) : Option ClearFields := do
  let (unitCauses, p) ← read8 p
  let (axisFault, p) ← read16 p
  let (capture, p) ← read16 p
  let (limit, p) ← read16 p
  let (counters, p) ← read8 p
  let (glitch, p) ← read16 p
  readEnd { unitCauses, axisFault, capture, limit, counters, glitch } p

/-- CUE: activation time (8), tag (1), embedded kind (1), embedded payload (R165, R177). -/
def decodeCue (p : List Byte) : Option Request := do
  let (time, p) ← read64 p
  let (tag, p) ← read8 p
  let (kind, p) ← read8 p
  some (.cue time tag kind p)

/-! ### Request kinds -/

/-- Whether a kind code is one of the cueable kinds (R151). -/
def cueableKind (kind : Byte) : Bool :=
  [0x03, 0x04, 0x05, 0x06, 0x07, 0x12, 0x13, 0x14, 0x16, 0x17, 0x18, 0x19].contains kind.toNat

/-- Whether a kind code is a request kind (R165, test 2). REPLY is none. -/
def requestKind (kind : Byte) : Bool :=
  cueableKind kind ||
    [0x01, 0x02, 0x08, 0x09, 0x10, 0x11, 0x15, 0x1A, 0x20, 0x21, 0x28, 0x29, 0x2A, 0x2B, 0x2C, 0x30,
      0x31, 0x32, 0x33, 0x38].contains kind.toNat

/-- A cueable request from its kind code and payload; none where the payload has not the kind's
size. -/
def decodeCueRequest (kind : Byte) (payload : List Byte) : Option CueRequest :=
  match kind.toNat with
  | 0x03 => readEnd .hold payload
  | 0x04 => readEnd .release payload
  | 0x05 => (decode64 payload).map .skySet
  | 0x06 => (decodeSkyRate payload).map (fun x => .skyRate x.1 x.2)
  | 0x07 => (decode64 payload).map .showSet
  | 0x12 => (decodeAxisLaw payload).map (fun x => .axisLaw x.1 x.2.1 x.2.2)
  | 0x13 => (decode8 payload).map .enable
  | 0x14 => (decode8 payload).map .disable
  | 0x16 => (decode8 payload).map .track
  | 0x17 => (decode8 payload).map .stop
  | 0x18 => (decodeMove payload).map (fun x => .move x.1 x.2.1 x.2.2)
  | 0x19 => (decode8 payload).map .flush
  | _ => none

/-- A request from its kind code and payload (R165, test 4; R177); none where the payload has not the
kind's size. `straps` are the strap levels a UNIT_RESET would read. -/
def decodeRequest (straps : BitVec 5) (kind : Byte) (payload : List Byte) : Option Request :=
  match kind.toNat with
  | 0x01 => readEnd .run payload
  | 0x02 => readEnd .sync payload
  | 0x08 => (decode8x4 payload).map (fun x => .unitSettings x.1 x.2.1 x.2.2.1 x.2.2.2)
  | 0x09 => readEnd (.unitReset straps) payload
  | 0x10 => (decodeMotion payload).map (fun x => .axisMotionConfig x.1 x.2)
  | 0x11 => (decodeSense payload).map (fun x => .axisSenseConfig x.1 x.2)
  | 0x15 => (decode8 payload).map .home
  | 0x1A => (decode8 payload).map .faultAck
  | 0x20 => decodeCue payload
  | 0x21 => (decode8 payload).map .cueCancel
  | 0x28 => (decode8x4 payload).map (fun x => .stageHeader x.1 x.2.1 x.2.2.1 x.2.2.2)
  | 0x29 => (decodeStageKnots payload).map (fun x => .stageKnots x.1 x.2)
  | 0x2A => readEnd .stageClear payload
  | 0x2B => (decodeCommit payload).map (fun x => .commit x.1 x.2)
  | 0x2C => readEnd .abortRewrite payload
  | 0x30 => (decode8x2 payload).map (fun x => .statusQuery x.1 x.2)
  | 0x31 => (decode8x3 payload).map (fun x => .axisQuery x.1 x.2.1 x.2.2)
  | 0x32 => (decode8x2 payload).map (fun x => .tableQuery x.1 x.2)
  | 0x33 => (decode16 payload).map .segmentQuery
  | 0x38 => (decodeClear payload).map .clear
  | _ => (decodeCueRequest kind payload).map .cueable

/-! ### The encoder -/

/-- The kind code of a cueable request (spec/12, Request kinds). -/
def CueRequest.kind : CueRequest → Byte
  | .hold => 0x03
  | .release => 0x04
  | .skySet _ => 0x05
  | .skyRate _ _ => 0x06
  | .showSet _ => 0x07
  | .axisLaw _ _ _ => 0x12
  | .enable _ => 0x13
  | .disable _ => 0x14
  | .track _ => 0x16
  | .stop _ => 0x17
  | .move _ _ _ => 0x18
  | .flush _ => 0x19

/-- The kind code of a request (spec/12, Request kinds). -/
def Request.kind : Request → Byte
  | .cueable r => r.kind
  | .run => 0x01
  | .sync => 0x02
  | .unitSettings _ _ _ _ => 0x08
  | .unitReset _ => 0x09
  | .axisMotionConfig _ _ => 0x10
  | .axisSenseConfig _ _ => 0x11
  | .home _ => 0x15
  | .faultAck _ => 0x1A
  | .cue _ _ _ _ => 0x20
  | .cueCancel _ => 0x21
  | .stageHeader _ _ _ _ => 0x28
  | .stageKnots _ _ => 0x29
  | .stageClear => 0x2A
  | .commit _ _ => 0x2B
  | .abortRewrite => 0x2C
  | .statusQuery _ _ => 0x30
  | .axisQuery _ _ _ => 0x31
  | .tableQuery _ _ => 0x32
  | .segmentQuery _ => 0x33
  | .clear _ => 0x38

/-- The bytes of an AXIS_LAW body (spec/12, Request kinds). -/
def LawBody.bytes : LawBody → List Byte
  | .empty => []
  | .linear phase rate epoch => bytes64 phase ++ bytes64 rate ++ bytes64 epoch
  | .table id offset => id :: bytes64 offset
  | .coupled source numerator denominator phase =>
    source :: (bytes32 numerator ++ bytes32 denominator ++ bytes64 phase)

/-- The payload of a cueable request. -/
def CueRequest.payload : CueRequest → List Byte
  | .hold | .release => []
  | .skySet value | .showSet value => bytes64 value
  | .skyRate endRate length => bytes64 endRate ++ bytes16 length
  | .axisLaw axis kind body => axis :: kind :: body.bytes
  | .enable axis | .disable axis | .track axis | .stop axis | .flush axis => [axis]
  | .move axis endPosition arrival => axis :: (bytes64 endPosition ++ bytes64 arrival)

/-- The bytes of an Axis Motion Config as written (spec/12). -/
def MotionFields.bytes (f : MotionFields) : List Byte :=
  f.kind :: (bytes32 f.steps ++ f.lane :: (bytes16 f.vmax ++ bytes16 f.amax ++ bytes16 f.backlash ++
    bytes64 f.softMin ++ bytes64 f.softMax ++ bytes32 f.lagLimit ++ [f.holdResponse, f.parkMode]))

/-- The four bytes of the inputs. -/
def InputBytes.bytes (b : InputBytes) : List Byte := [b.home, b.limPos, b.limNeg, b.drvFault]

/-- The bytes of an Axis Sense Config as written (spec/12). -/
def SenseFields.bytes (f : SenseFields) : List Byte :=
  f.encoderMode :: f.invert :: (bytes32 f.counts ++ bytes32 f.followLimit ++
    f.homeMode :: f.homeDirection :: (bytes16 f.homeSpeed ++ bytes32 f.travelLimit ++
      bytes64 f.homeOffset ++ f.activeLevels.bytes ++ f.windows.bytes))

/-- The bytes of one knot: τ then A. -/
def KnotField.bytes (k : KnotField) : List Byte := bytes64 k.time ++ bytes64 k.angle

/-- The bytes of a knot list. -/
def knotsBytes : List KnotField → List Byte
  | [] => []
  | k :: rest => k.bytes ++ knotsBytes rest

/-- The payload of a request (spec/12, Request kinds). -/
def Request.payload : Request → List Byte
  | .cueable r => r.payload
  | .run | .sync | .unitReset _ | .stageClear | .abortRewrite => []
  | .unitSettings policy halts holdWindow haltWindow => [policy, halts, holdWindow, haltWindow]
  | .axisMotionConfig axis f => axis :: f.bytes
  | .axisSenseConfig axis f => axis :: f.bytes
  | .home axis | .faultAck axis => [axis]
  | .cue time tag kind payload => bytes64 time ++ tag :: kind :: payload
  | .cueCancel tag => [tag]
  | .stageHeader table sequence count final => [table, sequence, count, final]
  | .stageKnots first knots => first :: knotsBytes knots
  | .commit segment eraseOnly => bytes16 segment ++ [eraseOnly]
  | .statusQuery page part => [page, part]
  | .axisQuery axis page part => [axis, page, part]
  | .tableQuery table part => [table, part]
  | .segmentQuery segment => bytes16 segment
  | .clear f =>
    f.unitCauses :: (bytes16 f.axisFault ++ bytes16 f.capture ++ bytes16 f.limit ++
      f.counters :: bytes16 f.glitch)

/-! ### Table words -/

/-- The command a word of the opcode table's bits spells: no row of the table has bits, so none. -/
def decodeTableWord (_nbits _w : Nat) : Option Instr := none

end Sys2Proof
end

