-- ==== Sys2Proof/Machine/Arith.lean ====
section
/-! DEFINITION. The arithmetic of spec/00, Arithmetic: exact integers, explicit rounding and explicit
saturation. -/

namespace Sys2Proof.Machine

/-- Least value of the signed 64-bit range. -/
def minInt64 : Int := -9223372036854775808

/-- Greatest value of the signed 64-bit range. -/
def maxInt64 : Int := 9223372036854775807

/-- Greatest value of the range of W: 2^63 − 2^32 (R33). -/
def maxWrapBase : Int := 9223372032559808512

/-- One revolution of the output shaft in au: 2^32 (spec/00). -/
def revolution : Int := 4294967296

/-- clamp(x, a, b): x limited to the range a to b (spec/00, Arithmetic). -/
def clamp (x a b : Int) : Int := if x < a then a else if b < x then b else x

/-- Saturation to the signed 64-bit range (spec/00, Arithmetic). -/
def sat64 (x : Int) : Int := clamp x minInt64 maxInt64

/-- A count that rises by `k` and saturates at `top`. -/
def countUp (top k n : Nat) : Nat := min top (n + k)

/-- floor of a quotient: toward minus infinity (spec/00, Arithmetic). -/
def floorQuot (a b : Int) : Int := Int.fdiv a b

/-- trunc of a quotient: toward zero (spec/00, Arithmetic). -/
def truncQuot (a b : Int) : Int := Int.tdiv a b

/-- sign(x) (spec/00, Arithmetic). -/
def sign (x : Int) : Int := if x < 0 then -1 else if x = 0 then 0 else 1

/-- The digits of the square root below bit `k`, added to the root `r` found so far. -/
def isqrtFrom : Nat → Nat → Nat → Nat
  | 0, _, r => r
  | k + 1, n, r => isqrtFrom k n (if (r + 2 ^ k) * (r + 2 ^ k) ≤ n then r + 2 ^ k else r)

/-- isqrt(x): the greatest integer whose square does not exceed x (spec/00, Arithmetic). Forty binary
digits serve every x below 2^80, and the limiter's x lies below 2^73. -/
def isqrt (n : Nat) : Nat := isqrtFrom 40 n 0

/-- The value of axis `i`'s bit in an axis set (spec/12, Bit sets). -/
def inSet (set : AxisSet) (i : AxisIdx) : Bool := set.getLsbD i.val

/-- An axis set with axis `i` added. -/
def addAxis (set : AxisSet) (i : AxisIdx) : AxisSet := set ||| (1#16 <<< i.val)

/-- An axis set with axis `i` removed. -/
def dropAxis (set : AxisSet) (i : AxisIdx) : AxisSet := set &&& ~~~(1#16 <<< i.val)

/-- The sixteen axes in ascending index (R19). -/
def allAxes : List AxisIdx := [0, 1, 2, 3, 4, 5, 6, 7, 8, 9, 10, 11, 12, 13, 14, 15]

end Sys2Proof.Machine
end

