-- ==== Sys2Proof/Machine/State.lean ====
section
/-! DEFINITION. The state of the EQ16 as plain data, block by block, and `State.reset`. -/

namespace Sys2Proof.Machine

/-- A finite map from numbers to records, held as a list of pairs with strictly rising keys, so that
equal maps are equal lists. -/
abbrev Sparse (α : Type) := List (Nat × α)

/-! ### Outcomes (spec/11, spec/12) -/

/-- The outcome a request gives (spec/11, Outcomes). -/
inductive ResultCode
  | done | doneClamped | unknownKind | badLength | badAxis | outOfRange | wrongState | notReady
  | halted | queueFull | notCueable | notHomed | couplingOrder | tableUnusable | stagingBusy
  | rewriteBusy | segInUse | incomplete | disorder
deriving DecidableEq, Repr

/-! ### Sky Clock (spec/01) -/

/-- The clock state (R4). -/
inductive ClockState
  | stopped | running
deriving DecidableEq, Repr

/-- A ramp of the sky rate: `taken` of its `length` steps have been taken (R11, R12). -/
structure Ramp where
  startRate : Int
  endRate : Int
  length : Nat
  taken : Nat
deriving DecidableEq, Repr

/-- The suspend policy (R52, R54). -/
inductive SuspendPolicy
  | serve | defer
deriving DecidableEq, Repr

/-- The Unit Settings record (R17). -/
structure UnitSettings where
  policy : SuspendPolicy
  showHaltsOnHold : Bool
  holdWindow : Nat
  haltWindow : Nat
deriving DecidableEq, Repr

/-- The filter of the Hold or the Halt line: whether the accepted level is active, and the run count
(R15). -/
structure LineFilter where
  active : Bool
  runCount : Nat
deriving DecidableEq, Repr

/-- The Sky Clock (spec/01, state table). -/
structure SkyClock where
  state : ClockState
  skyLane : Int
  showLane : Int
  rate : Int
  ramp : Option Ramp
  pendingSky : Option Int
  pendingShow : Option Int
  skyLimit : Bool
  softHold : Bool
  holdLine : LineFilter
  haltLine : LineFilter
  settings : UnitSettings
deriving DecidableEq, Repr

/-! ### Axis contexts (spec/02, 03, 05, 06, 07, 08, 09) -/

/-- The kind of an axis (R94). -/
inductive AxisKind
  | wrapping | bounded
deriving DecidableEq, Repr

/-- The two time lanes. -/
inductive Lane
  | sky | showing
deriving DecidableEq, Repr

/-- What an axis does in a hold (R102). -/
inductive HoldResponse
  | follow | freeze
deriving DecidableEq, Repr

/-- The park modes (R147). -/
inductive ParkMode
  | holdTorque | release | brake
deriving DecidableEq, Repr

/-- A sense of travel: last direction, home direction, DIR level, window sign. -/
inductive Sense
  | positive | negative
deriving DecidableEq, Repr

/-- The Axis Motion Config (spec/06). `steps` is S, `backlash` is B. -/
structure MotionConfig where
  kind : AxisKind
  steps : Nat
  lane : Lane
  vmax : Nat
  amax : Nat
  backlash : Nat
  softMin : Int
  softMax : Int
  lagLimit : Nat
  holdResponse : HoldResponse
  parkMode : ParkMode
deriving DecidableEq, Repr

/-- The encoder modes (R130). -/
inductive EncoderMode
  | none | x1 | x2 | x4
deriving DecidableEq, Repr

/-- The home modes (spec/07). -/
inductive HomeMode
  | none | switch | switchIndex
deriving DecidableEq, Repr

/-- One value for each of the four switch inputs of an axis. -/
structure PerInput (α : Type) where
  home : α
  limPos : α
  limNeg : α
  drvFault : α
deriving DecidableEq, Repr

/-- The Axis Sense Config (spec/07, spec/08). `counts` is E. -/
structure SenseConfig where
  encoderMode : EncoderMode
  invert : Bool
  counts : Nat
  followLimit : Nat
  homeMode : HomeMode
  homeDirection : Sense
  homeSpeed : Nat
  travelLimit : Nat
  homeOffset : Int
  activeLevels : PerInput Level
  windows : PerInput Nat
deriving DecidableEq, Repr

/-- The Axis Law record (spec/02). -/
inductive Law
  | none
  | linear (phase rate epoch : Int)
  | table (id : TableId) (offset : Int)
  | coupled (source : AxisIdx) (numerator : Int) (denominator : Nat) (phase : Int)
  | cued
deriving DecidableEq, Repr

/-- A Move record: end position Pe and arrival time Te (spec/02). -/
structure Move where
  position : Int
  arrival : Int
deriving DecidableEq, Repr

/-- A head start: start time Ts and start position Ps (R28). -/
structure HeadStart where
  time : Int
  position : Int
deriving DecidableEq, Repr

/-- The axis states (spec/06). -/
inductive AxisState
  | off | ready | homing | tracking | frozen | limited | faulted
deriving DecidableEq, Repr

/-- The states an axis in LIMITED can remember (spec/06). -/
inductive Remembered
  | ready | tracking | frozen
deriving DecidableEq, Repr

/-- The fault causes (R107); an empty record has `none`. -/
inductive FaultCause
  | none | follow | homeFail | drive | halt
deriving DecidableEq, Repr

/-- The Fault Record (R107). -/
structure FaultRecord where
  cause : FaultCause
  time : Int
  stateAt : AxisState
  further : Nat
deriving DecidableEq, Repr

/-- A knot an axis knows: its index in the table, its time and angle, its segment (R41, R42). -/
structure KnotRef where
  index : Nat
  knot : Knot
  segment : Nat
deriving DecidableEq, Repr

/-- The bracket cache: its validity, and for PAIR the two knots (R41). -/
inductive Bracket
  | none
  | pair (low high : KnotRef)
  | before
  | after
deriving DecidableEq, Repr

/-- The phase of a fetch: a STEP beyond the low knot or below the high knot, or the SEARCH between
them (R44, R45). -/
inductive FetchPhase
  | stepUp | stepDown | search
deriving DecidableEq, Repr

/-- A fetch: search time, low knot, high knot and phase (spec/03). -/
structure Fetch where
  time : Int
  low : KnotRef
  high : KnotRef
  phase : FetchPhase
deriving DecidableEq, Repr

/-- The fetch states (spec/03). An axis in WAITING has its read in the port's pending set. -/
inductive FetchState
  | idle | waiting | granted | discarding
deriving DecidableEq, Repr

/-- The homing phases (spec/07). -/
inductive HomingPhase
  | none | backOff | seekSwitch | seekIndex | stopping
deriving DecidableEq, Repr

/-- How a homing ended (spec/07). -/
inductive HomingEnd
  | completed | failed | ended
deriving DecidableEq, Repr

/-- The homing record (spec/07). -/
structure Homing where
  phase : HomingPhase
  paused : Bool
  speed : Nat
  start : Int
  switchPoint : Option Int
  reference : Option Int
  lastEnd : Option (HomingEnd × HomingPhase)
  distance : Option Int
deriving DecidableEq, Repr

/-- The filter of one switch input; accepted level `none` is UNSETTLED (R125, R126). -/
structure Filter where
  accepted : Option Level
  runLevel : Level
  runCount : Nat
deriving DecidableEq, Repr

/-- One capture of an index event: the extended count and the Show lane time (R138). -/
structure Capture where
  count : Int
  time : Int
deriving DecidableEq, Repr

/-- The Index Capture record (R138). -/
structure IndexCapture where
  current : Option Capture
  previous : Option Capture
  pending : Bool
  missed : Nat
deriving DecidableEq, Repr

/-- The encoder state of an axis (spec/08). `none` levels are UNSEEN. -/
structure Encoder where
  pair : Option (Level × Level)
  count : Int
  offset : Int
  glitches : Nat
  index : Option Level
  capture : IndexCapture
deriving DecidableEq, Repr

/-- An emission window. `started` is whether its start instant has come: it waits for the end of a
pulse in progress (R143). `begun` counts the pulses begun. -/
structure Window where
  sense : Sense
  count : Nat
  started : Bool
  begun : Nat
deriving DecidableEq, Repr

/-- The output modes (R146). -/
inductive OutputMode
  | active | parked | startUp
deriving DecidableEq, Repr

/-- The Step Outputs state of an axis (spec/09); `enable` and `step` are active levels, `brake` is
engaged. -/
structure Output where
  window : Option Window
  step : Bool
  dir : Sense
  mode : OutputMode
  parkPending : Bool
  enable : Bool
  brake : Bool
deriving DecidableEq, Repr

/-- One axis: its axis context, its Sense Inputs and its Step Outputs. Names P, W, M, C, v, Lp of
the spec are written in lower case. `stallCounted` marks a waiting read already counted in the Table
Stall count (R54), `stopTaken` an axis that has taken an entry to LIMITED, a DISABLE or an entry to FAULTED
since its last turn (R90). -/
structure Axis where
  motion : MotionConfig
  sense : SenseConfig
  law : Law
  p : Int
  w : Int
  rebaseDue : Bool
  m : Int
  moves : List Move
  headStart : Option HeadStart
  offTable : Bool
  stale : Bool
  late : Bool
  clamped : Bool
  bracket : Bracket
  wanted : Int
  fetch : Option Fetch
  fetchState : FetchState
  stallCounted : Bool
  c : Int
  v : Int
  lp : Int
  lastDir : Sense
  lag : Bool
  state : AxisState
  remembered : Option Remembered
  activeLimit : Option EndStop
  stopTaken : Bool
  homed : Bool
  sourceHeld : Bool
  fault : FaultRecord
  homing : Homing
  filters : PerInput Filter
  encoder : Encoder
  output : Output
deriving DecidableEq, Repr

/-! ### Cue Queue (spec/10) -/

/-- A Cue record (spec/10). -/
structure CueRecord where
  time : Int
  tag : Byte
  request : CueRequest
deriving DecidableEq, Repr

/-- The Last Cue Failure record (R155). -/
structure CueFailure where
  tag : Byte
  kind : Byte
  outcome : ResultCode
deriving DecidableEq, Repr

/-- The Cue Queue (spec/10). -/
structure CueQueue where
  records : List CueRecord
  lastFailure : Option CueFailure
  failures : Nat
deriving DecidableEq, Repr

/-! ### Table Memory and Table Port (spec/03, spec/04) -/

/-- The nonvolatile contents of a segment (R57). -/
structure SegmentImage where
  header : Option Header
  slots : Sparse Knot
  marker : Bool
  openMark : Bool
deriving DecidableEq, Repr

/-- The record of a segment: its state and, for VALID, the header and the first and last knot
(R57). -/
inductive SegmentRecord
  | blank
  | valid (header : Header) (first last : Knot)
  | torn
  | busy
deriving DecidableEq, Repr

/-- The start-up state (R59). -/
inductive StartUp
  | scanning | complete
deriving DecidableEq, Repr

/-- The state of a Directory entry (R61). -/
inductive DirState
  | absent | conflicted | part | disordered | complete
deriving DecidableEq, Repr

/-- A Table Directory entry (spec/04): `segments` lists each segment with its knot count, `ends` is
the first and last knot of a COMPLETE table, `bound` the bound-axis set. -/
structure DirEntry where
  state : DirState
  claims : Nat
  segments : List (Nat × Nat)
  total : Nat
  ends : Option (KnotRef × KnotRef)
  bound : AxisSet
deriving DecidableEq, Repr

/-- The Staging Buffer: optional header and the written knot slots (R64 to R66). -/
structure Staging where
  header : Option Header
  slots : Sparse Knot
deriving DecidableEq, Repr

/-- The Rewrite Engine states (spec/04). -/
inductive EngineState
  | idle | erasing | eraseSuspended | programming | programSuspended | aborting
deriving DecidableEq, Repr

/-- The rewrite record (R68). -/
structure Rewrite where
  segment : Nat
  eraseOnly : Bool
  oldTable : Option TableId
  newTable : Option TableId
deriving DecidableEq, Repr

/-- The outcomes of a rewrite (R71). -/
inductive RewriteOutcome
  | verified | failed | aborted | erased
deriving DecidableEq, Repr

/-- Table Memory (spec/04). An unlisted segment holds nothing and is BLANK. -/
structure TableMemory where
  images : Sparse SegmentImage
  records : Sparse SegmentRecord
  startUp : StartUp
  directory : Vector DirEntry 64
  staging : Staging
  engine : EngineState
  rewrite : Option Rewrite
  lastOutcome : Option (RewriteOutcome × Nat)
  stalls : Nat
deriving DecidableEq, Repr

/-- A read in progress: its axis, the knot's index and where the knot lies (R50). -/
structure PortRead where
  axis : AxisIdx
  index : Nat
  segment : Nat
  slot : Nat
deriving DecidableEq, Repr

/-- The Table Port (spec/03). Its pending set is the set of axes whose fetch state is WAITING. -/
structure TablePort where
  reading : Option PortRead
  lastServed : AxisIdx
  suspendRequest : Bool
deriving DecidableEq, Repr

/-! ### Link Port (spec/11) -/

/-- The Attention Set (R171). -/
structure Attention where
  rewriteEnd : Bool
  cueFailed : Bool
  linkError : Bool
  skyLimit : Bool
  axisFault : AxisSet
  capture : AxisSet
  limit : AxisSet
deriving DecidableEq, Repr

/-- A cause of the Attention Set (R171). -/
inductive Cause
  | rewriteEnd | cueFailed | linkError | skyLimit
  | axisFault (axis : AxisIdx)
  | capture (axis : AxisIdx)
  | limit (axis : AxisIdx)
deriving DecidableEq, Repr

/-- The frame being assembled: address, whether it is taken, the characters kept (address first), and
whether a bad stop bit or a character beyond the 63rd has come (R161, R164). -/
structure FrameIn where
  address : Byte
  taken : Bool
  chars : List Byte
  bad : Bool
deriving DecidableEq, Repr

/-- A reply, its content fixed when it is placed (R167). -/
structure Reply where
  address : BitVec 5
  kind : Byte
  outcome : ResultCode
  data : List Byte
deriving DecidableEq, Repr

/-- What the Return Buffer holds: characters, and the frame end marks between them (R168). -/
inductive BufferItem
  | char (c : LinkChar)
  | endMark
deriving DecidableEq, Repr

/-- The return relay states (spec/11). -/
inductive RelayState
  | direct | ownReply | gap | buffered
deriving DecidableEq, Repr

/-- The Link Port (spec/11). `sending` says that the head reply is the reply in progress.
`returnIdle` says that Return In has been idle for three character times since its last character
(R170), `returnDropping` that the rest of the present downstream frame is dropped (R169). `showOut`
and `returnOut` are the characters last put on the two output lines. -/
structure LinkPort where
  ownAddress : BitVec 5
  frame : Option FrameIn
  replies : List Reply
  sending : Bool
  returnBuffer : List BufferItem
  relay : RelayState
  framingErrors : Nat
  checkErrors : Nat
  requestOverruns : Nat
  returnOverruns : Nat
  attention : Attention
  resetPending : Bool
  returnIdle : Bool
  returnDropping : Bool
  showOut : Option LinkChar
  returnOut : List LinkChar
deriving DecidableEq, Repr

/-! ### The unit -/

/-- Whether the unit has power and is out of reset: POWER_LOSS makes it `off`, an asserted Reset line
`inReset`, POWER_ON_RESET `on` (R77, R175). -/
inductive Power
  | off | inReset | on
deriving DecidableEq, Repr

/-- What a Lane Update hands on: the new lane values and the discontinuity marks (R2, R8). -/
structure LaneUpdate where
  skyLane : Int
  showLane : Int
  skyMark : Bool
  showMark : Bool
deriving DecidableEq, Repr

/-- The work of a Lane Update while it is under way (R19, R20, R153, R158): what the update handed on, the
axes whose turn is still to come, in order, and whether the firing pass has not yet ended. -/
structure UpdateWork where
  update : LaneUpdate
  turns : List AxisIdx
  firing : Bool
deriving DecidableEq, Repr

/-- The whole state. `work` is the Lane Update's work in hand, if its turns and its firing pass are not
all done. `draws` counts the free values taken (Config), `pending` holds the commands that wait, first in
first out; both are the model's own. -/
structure State where
  power : Power
  clock : SkyClock
  axes : Vector Axis 16
  cues : CueQueue
  memory : TableMemory
  port : TablePort
  link : LinkPort
  work : Option UpdateWork
  draws : Nat
  pending : List Instr
deriving DecidableEq, Repr

/-- What carrying out a request gives: the state after it, its outcome and the reply's data (R166). -/
structure Result where
  state : State
  outcome : ResultCode
  data : List Byte
deriving DecidableEq, Repr

/-- Why a command stops the machine: no command of the EQ16 does, so there is no constructor. -/
inductive Fault
deriving DecidableEq, Repr

/-- Why the model answers nothing for a command. -/
inductive Refusal
  /-- Raised by an arm of `exec` alone, for a command that has no meaning yet. Safe: the model stops
  where the part goes on. -/
  | notModelled (mnemonic : String)
deriving DecidableEq, Repr

/-! ### Reset values -/

/-- Reset values of the Unit Settings (spec/01, Unit Settings). -/
def UnitSettings.reset : UnitSettings :=
  { policy := .serve, showHaltsOnHold := false, holdWindow := 4, haltWindow := 4 }

/-- Reset values of the Sky Clock (R18). -/
def SkyClock.reset : SkyClock :=
  { state := .stopped, skyLane := 0, showLane := 0, rate := 1000, ramp := none, pendingSky := none
    pendingShow := none, skyLimit := false, softHold := false
    holdLine := { active := false, runCount := 0 }
    haltLine := { active := false, runCount := 0 }, settings := UnitSettings.reset }

/-- Reset values of the Axis Motion Config (spec/06). -/
def MotionConfig.reset : MotionConfig :=
  { kind := .wrapping, steps := 51200, lane := .sky, vmax := 100, amax := 10, backlash := 0
    softMin := -1000000, softMax := 1000000, lagLimit := 0, holdResponse := .freeze
    parkMode := .brake }

/-- Reset values of the Axis Sense Config (R129, R142). -/
def SenseConfig.reset : SenseConfig :=
  { encoderMode := .none, invert := false, counts := 4096, followLimit := 0, homeMode := .none
    homeDirection := .positive, homeSpeed := 10, travelLimit := 2000000, homeOffset := 0
    activeLevels := { home := .low, limPos := .low, limNeg := .low, drvFault := .low }
    windows := { home := 4, limPos := 4, limNeg := 4, drvFault := 4 } }

/-- The empty Fault Record (R107). -/
def FaultRecord.empty : FaultRecord :=
  { cause := .none, time := 0, stateAt := .ready, further := 0 }

/-- Reset values of the homing record (spec/07). -/
def Homing.reset : Homing :=
  { phase := .none, paused := false, speed := 0, start := 0, switchPoint := none, reference := none
    lastEnd := none, distance := none }

/-- Reset values of a switch input filter (R126). DESIGN CHOICE (log 2), unsafe: the run level before
the first sample is LOW; the first sample replaces it. -/
def Filter.reset : Filter := { accepted := none, runLevel := .low, runCount := 0 }

/-- Reset values of the encoder state (R142). -/
def Encoder.reset : Encoder :=
  { pair := none, count := 0, offset := 0, glitches := 0, index := none
    capture := { current := none, previous := none, pending := false, missed := 0 } }

/-- The output levels of START-UP, held from a power-on reset (R149). -/
def Output.startUp : Output :=
  { window := none, step := false, dir := .positive, mode := .startUp, parkPending := false
    enable := false, brake := true }

/-- Reset values of one axis (R40, R56, R92, R112, R129, R142, R149). -/
def Axis.reset : Axis :=
  { motion := MotionConfig.reset, sense := SenseConfig.reset, law := .none, p := 0, w := 0
    rebaseDue := false, m := 0, moves := [], headStart := none, offTable := false, stale := false
    late := false, clamped := false, bracket := .none, wanted := 0, fetch := none
    fetchState := .idle, stallCounted := false, c := 0, v := 0, lp := 0, lastDir := .positive
    lag := false, state := .off, remembered := none, activeLimit := none, stopTaken := false
    homed := false, sourceHeld := false, fault := FaultRecord.empty, homing := Homing.reset
    filters := { home := Filter.reset, limPos := Filter.reset, limNeg := Filter.reset
                 drvFault := Filter.reset }
    encoder := Encoder.reset, output := Output.startUp }

/-- Reset values of the Cue Queue (R160). -/
def CueQueue.reset : CueQueue := { records := [], lastFailure := none, failures := 0 }

/-- The Directory entry of an id no VALID segment carries (R61). -/
def DirEntry.absent : DirEntry :=
  { state := .absent, claims := 0, segments := [], total := 0, ends := none, bound := 0 }

/-- Table Memory after a power-on reset, with the segments as `images`: the scan is still to rebuild
the records and the Directory (R59, R77). DESIGN CHOICE (log 3), unsafe: until then the records read
BLANK and the entries ABSENT. -/
def TableMemory.powerOn (images : Sparse SegmentImage) : TableMemory :=
  { images := images, records := [], startUp := .scanning
    directory := Vector.replicate 64 DirEntry.absent
    staging := { header := none, slots := [] }, engine := .idle, rewrite := none
    lastOutcome := none, stalls := 0 }

/-- Reset values of the Table Port (R56). -/
def TablePort.reset : TablePort := { reading := none, lastServed := 15, suspendRequest := false }

/-- The empty Attention Set (R171). -/
def Attention.empty : Attention :=
  { rewriteEnd := false, cueFailed := false, linkError := false, skyLimit := false
    axisFault := 0, capture := 0, limit := 0 }

/-- Reset values of the Link Port with the address read from the straps (spec/11, state table). -/
def LinkPort.reset (straps : BitVec 5) : LinkPort :=
  { ownAddress := straps, frame := none, replies := [], sending := false, returnBuffer := []
    relay := .direct, framingErrors := 0, checkErrors := 0, requestOverruns := 0
    returnOverruns := 0, attention := Attention.empty, resetPending := false, returnIdle := true
    returnDropping := false, showOut := none, returnOut := [] }

/-- The unit right after a power-on reset. DESIGN CHOICE (log 1), unsafe, where the spec gives no
value: every segment erased, straps 0, Return In idle, no character yet on an output line. -/
def State.reset : State :=
  { power := .on, clock := SkyClock.reset, axes := Vector.replicate 16 Axis.reset
    cues := CueQueue.reset, memory := TableMemory.powerOn [], port := TablePort.reset
    link := LinkPort.reset 0, work := none, draws := 0, pending := [] }

end Sys2Proof.Machine
end

