-- ==== Sys2Proof/Machine/Flags.lean ====
section
/-! DEFINITION. The Attention Set and its line, and the reply bytes that gather flags (spec/12, Bit
sets). -/

namespace Sys2Proof.Machine

/-- A raised cause joins the set, once (R171). -/
def Attention.raise (cause : Cause) (t : Attention) : Attention :=
  match cause with
  | .rewriteEnd => { t with rewriteEnd := true }
  | .cueFailed => { t with cueFailed := true }
  | .linkError => { t with linkError := true }
  | .skyLimit => { t with skyLimit := true }
  | .axisFault i => { t with axisFault := addAxis t.axisFault i }
  | .capture i => { t with capture := addAxis t.capture i }
  | .limit i => { t with limit := addAxis t.limit i }

/-- The set without the causes a CLEAR names (R172). -/
def Attention.clear (f : ClearFields) (t : Attention) : Attention :=
  { rewriteEnd := t.rewriteEnd && !f.unitCauses.getLsbD 0
    cueFailed := t.cueFailed && !f.unitCauses.getLsbD 1
    linkError := t.linkError && !f.unitCauses.getLsbD 2
    skyLimit := t.skyLimit && !f.unitCauses.getLsbD 3
    axisFault := t.axisFault &&& ~~~f.axisFault
    capture := t.capture &&& ~~~f.capture
    limit := t.limit &&& ~~~f.limit }

/-- The Attention line is asserted while the set is not empty (R171). -/
def State.attentionLine (s : State) : Bool := decide (s.link.attention ≠ Attention.empty)

/-- A cause raised in the unit's Attention Set. -/
def State.raise (cause : Cause) (s : State) : State :=
  { s with link := { s.link with attention := s.link.attention.raise cause } }

/-- A byte from its bits, bit 0 first. -/
def flagByte : List Bool → Nat
  | [] => 0
  | b :: rest => (if b then 1 else 0) + 2 * flagByte rest

end Sys2Proof.Machine
end

