-- ==== Sys2Proof/Machine/Sparse.lean ====
section
/-! DEFINITION. The finite maps Table Memory is held in, in one canonical form: keys strictly rising,
and no entry equal to what an unlisted key reads as. -/

namespace Sys2Proof.Machine

/-- The entry at `k`, if one is listed. -/
def sparseGet {α : Type} (k : Nat) : Sparse α → Option α
  | [] => none
  | (j, x) :: rest => if j = k then some x else sparseGet k rest

/-- The list with `k` removed. -/
def sparseErase {α : Type} (k : Nat) : Sparse α → Sparse α
  | [] => []
  | (j, x) :: rest => if j = k then sparseErase k rest else (j, x) :: sparseErase k rest

/-- The list with `x` at `k`, in its place by rising key. -/
def sparsePut {α : Type} (k : Nat) (x : α) : Sparse α → Sparse α
  | [] => [(k, x)]
  | (j, y) :: rest =>
    if k < j then (k, x) :: (j, y) :: rest
    else if k = j then (k, x) :: rest
    else (j, y) :: sparsePut k x rest

/-- A write where an unlisted key reads as `d`: writing `d` removes the entry. -/
def sparseSet {α : Type} [DecidableEq α] (d : α) (k : Nat) (x : α) (m : Sparse α) : Sparse α :=
  if x = d then sparseErase k m else sparsePut k x m

/-- Keys strictly rising, each above `low` and below `top`. -/
def keysRise {α : Type} (top : Nat) : Nat → Sparse α → Bool
  | _, [] => true
  | low, (k, _) :: rest => decide (low ≤ k) && decide (k < top) && keysRise top (k + 1) rest

/-- The segment contents of a fully erased segment (R58, R59). -/
def SegmentImage.erased : SegmentImage :=
  { header := none, slots := [], marker := false, openMark := false }

/-- The contents of segment `k`. -/
def TableMemory.image (t : TableMemory) (k : Nat) : SegmentImage :=
  (sparseGet k t.images).getD SegmentImage.erased

/-- Table Memory with segment `k`'s contents replaced. -/
def TableMemory.setImage (t : TableMemory) (k : Nat) (x : SegmentImage) : TableMemory :=
  { t with images := sparseSet SegmentImage.erased k x t.images }

/-- The segment record of segment `k` (R57). -/
def TableMemory.record (t : TableMemory) (k : Nat) : SegmentRecord :=
  (sparseGet k t.records).getD .blank

/-- Table Memory with segment `k`'s record replaced. -/
def TableMemory.setRecord (t : TableMemory) (k : Nat) (x : SegmentRecord) : TableMemory :=
  { t with records := sparseSet .blank k x t.records }

/-- The canonical form of the segment contents: segment numbers strictly rising and below 256, no
entry of an erased segment, and slot numbers strictly rising and below 63 (R57). -/
def imagesWf (m : Sparse SegmentImage) : Bool :=
  keysRise 256 0 m &&
    m.all (fun e => decide (e.2 ≠ SegmentImage.erased) && keysRise 63 0 e.2.slots)

/-- The canonical form of the segment records. -/
def recordsWf (m : Sparse SegmentRecord) : Bool :=
  keysRise 256 0 m && m.all (fun e => decide (e.2 ≠ SegmentRecord.blank))

/-- Table Memory's contents, records and Staging Buffer are in their one canonical form. -/
def TableMemory.wf (t : TableMemory) : Bool :=
  imagesWf t.images && recordsWf t.records && keysRise 63 0 t.staging.slots

end Sys2Proof.Machine
end

