-- ==== Sys2Proof/Machine/Ops.lean ====
section
/-! DEFINITION. The named operations over the axes, the clock's hold and the free values, and the
outcomes of requests. -/

namespace Sys2Proof.Machine

/-- Axis `i`. -/
def State.axis (s : State) (i : AxisIdx) : Axis := s.axes[i]

/-- The state with axis `i` replaced. -/
def State.setAxis (i : AxisIdx) (a : Axis) (s : State) : State :=
  { s with axes := s.axes.set i a }

/-- The state with axis `i` changed by `f`. -/
def State.onAxis (i : AxisIdx) (f : Axis → Axis) (s : State) : State := s.setAxis i (f (s.axis i))

/-- The state with every axis changed by `f`. -/
def State.mapAxes (f : Axis → Axis) (s : State) : State := { s with axes := s.axes.map f }

/-- The hold is in force while the software hold is on or the Hold line is accepted active (R13). -/
def SkyClock.holdInForce (k : SkyClock) : Bool := k.softHold || k.holdLine.active

/-- The Directory entry of a table id. -/
def State.entry (s : State) (id : TableId) : DirEntry := s.memory.directory[id]

/-- The state after a fresh free value is taken. -/
def State.afterDraw (s : State) : State := { s with draws := s.draws + 1 }

/-- A request carried out as asked. -/
def answerDone (s : State) : Result := { state := s, outcome := .done, data := [] }

/-- A request carried out as asked, with data in its reply. -/
def answerData (data : List Byte) (s : State) : Result := { state := s, outcome := .done, data := data }

/-- A request carried out, DONE_CLAMPED when a field saturated (R166). -/
def answerClamped (saturated : Bool) (s : State) : Result :=
  { state := s, outcome := if saturated then .doneClamped else .done, data := [] }

/-- A refused request changes no state and carries no data (R166). -/
def answerRefused (code : ResultCode) (s : State) : Result := { state := s, outcome := code, data := [] }

/-- A request that names an axis is refused with BAD_AXIS above 15 (R93). -/
def onAxisIndex (axis : Byte) (s : State) (f : AxisIdx → Result) : Result :=
  if h : axis.toNat < 16 then f ⟨axis.toNat, h⟩ else answerRefused .badAxis s

/-- A one-byte datum of a reply. -/
def byteOf (n : Nat) : Byte := BitVec.ofNat 8 n

end Sys2Proof.Machine
end

