-- ==== Sys2Proof/Machine/Outputs.lean ====
section
/-! DEFINITION. Step Outputs: emission windows, ENABLE and BRAKE, park modes (spec/09). -/

namespace Sys2Proof.Machine

/-- The sense of a count that is not 0. -/
def senseOf (n : Int) : Sense := if n < 0 then .negative else .positive

/-- ENABLE and BRAKE take the levels of the park mode, and park pending is cleared (R146, R147). -/
def Output.applyPark (mode : ParkMode) (o : Output) : Output :=
  match mode with
  | .holdTorque => { o with parkPending := false, enable := true, brake := false }
  | .release => { o with parkPending := false, enable := false, brake := false }
  | .brake => { o with parkPending := false, enable := false, brake := true }

/-- The axis enters OFF or FAULTED from an active state: the park levels wait for a window in hand
(R146). -/
def Output.park (mode : ParkMode) (o : Output) : Output :=
  if o.window = none then { o with mode := .parked }.applyPark mode
  else { o with mode := .parked, parkPending := true }

/-- The axis leaves OFF for READY (R146). -/
def Output.activate (o : Output) : Output :=
  { o with mode := .active, parkPending := false, enable := true, brake := false }

/-- An accepted write changed the park mode of an axis in OFF: the new levels apply at once, or with
park pending at the end of the window in hand (R147). -/
def Output.repark (mode : ParkMode) (o : Output) : Output :=
  if o.mode = .parked ∧ o.parkPending = false then o.applyPark mode else o

/-- A window in hand is settled: its pulses not yet begun are dropped, and park pending is carried out
(R145, R146). -/
def Output.settle (mode : ParkMode) (o : Output) : Output :=
  let o₁ := { o with window := none }
  if o₁.parkPending then o₁.applyPark mode else o₁

/-- A window opens for a count that is not 0. Its start instant, at which DIR takes its sense, is now, or
the end of a pulse in progress (R143, R144). -/
def Output.openWindow (n : Int) (o : Output) : Output :=
  if n = 0 then o
  else
    { o with
      window := some { sense := senseOf n, count := n.natAbs, started := !o.step, begun := 0 }
      dir := if o.step then o.dir else senseOf n }

/-- An axis's turn hands over its step count (R143). -/
def Output.handOver (mode : ParkMode) (n : Int) (o : Output) : Output :=
  (o.settle mode).openWindow n

/-- The step count of axis `i`'s turn is handed to Step Outputs. -/
def handOver (i : AxisIdx) (n : Int) (s : State) : State :=
  s.onAxis i (fun a => { a with output := a.output.handOver a.motion.parkMode n })

/-- The next pulse of a started window begins: STEP active (R143). -/
def Output.pulseBegin (o : Output) : Output :=
  match o.window with
  | some w =>
    if w.started = true ∧ w.begun < w.count ∧ o.step = false then
      { o with window := some { w with begun := w.begun + 1 }, step := true }
    else o
  | none => o

/-- A pulse's 1 µs ends. A window waiting for it starts and sets DIR; a window whose last pulse it was
ends, and park pending is carried out (R143, R144, R146). -/
def Output.pulseEnd (mode : ParkMode) (o : Output) : Output :=
  if o.step = false then o
  else
    match o.window with
    | none => { o with step := false }
    | some w =>
      if w.started = false then
        { o with step := false, window := some { w with started := true }, dir := w.sense }
      else if w.begun < w.count then { o with step := false }
      else { o with step := false }.settle mode

/-- Step Outputs of an axis after a UNIT_RESET: the window is cut off, a pulse in progress runs on
(R150). DEDUCED (log 26), unsafe: DIR becomes positive at once, within a pulse in progress too, where R144
says that DIR never changes while STEP is active. -/
def Output.unitReset (o : Output) : Output :=
  { window := none, step := o.step, dir := .positive, mode := .parked, parkPending := false
    enable := false, brake := true }

end Sys2Proof.Machine
end

