-- ==== Sys2Proof/Machine/Operands.lean ====
section
/-! DEFINITION. Reading request fields: the code bytes of spec/12, Field encoding, the ranges, and the
clamping rules of R83, R113 and R17. A reader answers `none` for a field that refuses its whole
request with OUT_OF_RANGE. -/

namespace Sys2Proof.Machine

/-- off, on; clear, set. -/
def readFlag (b : Byte) : Option Bool :=
  match b.toNat with | 0 => some false | 1 => some true | _ => none

/-- positive, negative. -/
def readSense (b : Byte) : Option Sense :=
  match b.toNat with | 0 => some .positive | 1 => some .negative | _ => none

/-- low, high. -/
def readLevel (b : Byte) : Option Level :=
  match b.toNat with | 0 => some .low | 1 => some .high | _ => none

/-- SERVE, DEFER. -/
def readPolicy (b : Byte) : Option SuspendPolicy :=
  match b.toNat with | 0 => some .serve | 1 => some .defer | _ => none

/-- WRAPPING, BOUNDED. -/
def readAxisKind (b : Byte) : Option AxisKind :=
  match b.toNat with | 0 => some .wrapping | 1 => some .bounded | _ => none

/-- SKY, SHOW. -/
def readLane (b : Byte) : Option Lane :=
  match b.toNat with | 0 => some .sky | 1 => some .showing | _ => none

/-- FOLLOW, FREEZE. -/
def readHoldResponse (b : Byte) : Option HoldResponse :=
  match b.toNat with | 0 => some .follow | 1 => some .freeze | _ => none

/-- HOLD_TORQUE, RELEASE, BRAKE. -/
def readParkMode (b : Byte) : Option ParkMode :=
  match b.toNat with | 0 => some .holdTorque | 1 => some .release | 2 => some .brake | _ => none

/-- NONE, X1, X2, X4. -/
def readEncoderMode (b : Byte) : Option EncoderMode :=
  match b.toNat with | 0 => some .none | 1 => some .x1 | 2 => some .x2 | 3 => some .x4 | _ => none

/-- NONE, SWITCH, SWITCH_INDEX. -/
def readHomeMode (b : Byte) : Option HomeMode :=
  match b.toNat with | 0 => some .none | 1 => some .switch | 2 => some .switchIndex | _ => none

/-- An unsigned field that must lie from `low` to `high`. -/
def readRange (low high n : Nat) : Option Nat := if low ≤ n ∧ n ≤ high then some n else none

/-- A signed field that saturates to the range 1 to `top` (R83, R113). -/
def saturateSpeed (top : Int) (x : BitVec 16) : Nat := (clamp x.toInt 1 top).toNat

/-- Whether that field saturated. -/
def speedSaturates (top : Int) (x : BitVec 16) : Bool := decide (x.toInt < 1 ∨ top < x.toInt)

/-- A filter window saturates to 15 (R17, R113). -/
def saturateWindow (b : Byte) : Nat := min 15 b.toNat

/-- Whether a filter window saturated. -/
def windowSaturates (b : Byte) : Bool := decide (15 < b.toNat)

/-- The Axis Motion Config a request carries (R83, R94). -/
def readMotion (f : MotionFields) : Option MotionConfig := do
  let kind ← readAxisKind f.kind
  let steps ← readRange 1 16777216 f.steps.toNat
  let lane ← readLane f.lane
  let backlash ← readRange 0 4095 f.backlash.toNat
  let lagLimit ← readRange 0 2147483647 f.lagLimit.toNat
  let holdResponse ← readHoldResponse f.holdResponse
  let parkMode ← readParkMode f.parkMode
  some
    { kind, steps, lane, vmax := saturateSpeed 500 f.vmax, amax := saturateSpeed 250 f.amax
      backlash, softMin := f.softMin.toInt, softMax := f.softMax.toInt, lagLimit, holdResponse
      parkMode }

/-- Whether Vmax or Amax saturated (R83). -/
def motionSaturates (f : MotionFields) : Bool :=
  speedSaturates 500 f.vmax || speedSaturates 250 f.amax

/-- The four active levels of an AXIS_SENSE_CONFIG (R113). -/
def readLevels (b : InputBytes) : Option (PerInput Level) := do
  let home ← readLevel b.home
  let limPos ← readLevel b.limPos
  let limNeg ← readLevel b.limNeg
  let drvFault ← readLevel b.drvFault
  some { home, limPos, limNeg, drvFault }

/-- The four filter windows of an AXIS_SENSE_CONFIG, each saturating (R113). -/
def readWindows (b : InputBytes) : PerInput Nat :=
  { home := saturateWindow b.home, limPos := saturateWindow b.limPos
    limNeg := saturateWindow b.limNeg, drvFault := saturateWindow b.drvFault }

/-- Whether one of the four windows saturated. -/
def windowsSaturate (b : InputBytes) : Bool :=
  windowSaturates b.home || windowSaturates b.limPos || windowSaturates b.limNeg ||
    windowSaturates b.drvFault

/-- The Axis Sense Config a request carries (R113, R133). -/
def readSenseConfig (f : SenseFields) : Option SenseConfig := do
  let encoderMode ← readEncoderMode f.encoderMode
  let invert ← readFlag f.invert
  let counts ← readRange 1 16777216 f.counts.toNat
  let followLimit ← readRange 0 2147483647 f.followLimit.toNat
  let homeMode ← readHomeMode f.homeMode
  let homeDirection ← readSense f.homeDirection
  let travelLimit ← readRange 1 2147483647 f.travelLimit.toNat
  let activeLevels ← readLevels f.activeLevels
  some
    { encoderMode, invert, counts, followLimit, homeMode, homeDirection
      homeSpeed := saturateSpeed 500 f.homeSpeed, travelLimit, homeOffset := f.homeOffset.toInt
      activeLevels, windows := readWindows f.windows }

/-- Whether the home speed or a filter window saturated (R113). -/
def senseSaturates (f : SenseFields) : Bool :=
  speedSaturates 500 f.homeSpeed || windowsSaturate f.windows

/-- A table id field (R64, R67): none above 63. -/
def readTable (b : Byte) : Option TableId :=
  if h : b.toNat < 64 then some ⟨b.toNat, h⟩ else none

/-- The header a STAGE_HEADER carries (R64). -/
def readHeader (table sequence count final : Byte) : Option Header := do
  let table ← readTable table
  let final ← readFlag final
  let count ← readRange 1 63 count.toNat
  if h : sequence.toNat < 16 then some { table, sequence := ⟨sequence.toNat, h⟩, count, final }
  else none

/-- A knot as a request carries it. -/
def knotOf (k : KnotField) : Knot := { time := k.time.toInt, angle := k.angle.toInt }

end Sys2Proof.Machine
end

