-- ==== Sys2Proof/Config.lean ====
section
/-! DEFINITION. The free values: what the spec leaves open and the machine goes on with. None has a
body, so nothing can be proved of a value here. `draw` is `State.draws`, which rises by one at each
use that takes a fresh value. -/

namespace Sys2Proof

/-- Whether an erase stopped short has still left the header (R58, R69), or a FAILED read-back still shows
it (R70). -/
opaque Config.keepsHeader (draw : Nat) : Bool

/-- The same of knot slot `slot`. -/
opaque Config.keepsSlot (draw slot : Nat) : Bool

/-- The same of the completion marker. -/
opaque Config.keepsMarker (draw : Nat) : Bool

/-- How far a program phase has come when it is stopped: the knots written, one more for the header, one
more for the completion marker (R58, R70, R72). -/
opaque Config.progress (draw : Nat) : Nat

/-- What a read of a slot that holds no knot would deliver (R57: such slots hold nothing the part
uses). -/
opaque Config.emptySlotKnot (segment slot : Nat) : Knot

/-- Whether the firing pass goes on before the Law Engine's next axis turn of the same Lane Update
(R19, R20, R153: either order is correct). -/
opaque Config.passFirst (draw : Nat) : Bool

/-- How many steps of a Lane Update's work are done before the command that waits next is taken (R20,
R158, R165: a request may be taken at any point of that work). -/
opaque Config.stepsAtOnce (draw : Nat) : Nat

/-- Whether the turn after an entry to LIMITED, a DISABLE or an entry to FAULTED hands 0 even where the axis
may move by then (R90), or moves as its state lays down (R79, R104): a constant of the device (DESIGN CHOICE,
log 27, safe). -/
opaque Config.stopHoldsTurn : Bool

end Sys2Proof
end

