-- ==== Sys2Proof/Machine/TablePort.lean ====
section
/-! DEFINITION. The Table Port and the fetches of the axes (spec/03). The pending set is the set of
axes in WAITING; `postRead`, `grantRead`, `raiseSuspend` and `resumeIfIdle` are the port's part in every
event that changes that set, ends a read or moves the Rewrite Engine. -/

namespace Sys2Proof.Machine

/-- The engine states in which a pending read may interrupt the rewrite (R52). -/
def EngineState.working : EngineState → Bool
  | .erasing | .programming => true
  | .idle | .eraseSuspended | .programSuspended | .aborting => false

/-- The suspended engine states (R53). -/
def EngineState.suspended : EngineState → Bool
  | .eraseSuspended | .programSuspended => true
  | .idle | .erasing | .programming | .aborting => false

/-- The engine states in which the port grants reads (R50). -/
def EngineState.grants : EngineState → Bool
  | .idle | .eraseSuspended | .programSuspended => true
  | .erasing | .programming | .aborting => false

/-- The phase a resume returns to (R53). -/
def EngineState.resumed : EngineState → EngineState
  | .eraseSuspended => .erasing
  | .programSuspended => .programming
  | e => e

/-- The state a Suspend Acknowledge enters (R72). -/
def EngineState.afterAcknowledge : EngineState → EngineState
  | .erasing => .eraseSuspended
  | .programming => .programSuspended
  | e => e

/-- Whether axis `i` has a read in the pending set (R50). -/
def State.waiting (s : State) (i : AxisIdx) : Bool := decide ((s.axis i).fetchState = .waiting)

/-- Whether the pending set is not empty. -/
def State.anyWaiting (s : State) : Bool := allAxes.any s.waiting

/-- Table Memory's engine state replaced. -/
def State.setEngine (e : EngineState) (s : State) : State :=
  { s with memory := { s.memory with engine := e } }

/-- The port's suspend request replaced. -/
def State.setSuspendRequest (b : Bool) (s : State) : State :=
  { s with port := { s.port with suspendRequest := b } }

/-- Under SERVE the suspend request is raised whenever the pending set is not empty and the engine is
ERASING or PROGRAMMING (R52). -/
def raiseSuspend (s : State) : State :=
  if s.clock.settings.policy = .serve ∧ s.anyWaiting = true ∧ s.memory.engine.working = true then
    s.setSuspendRequest true
  else s

/-- A suspended engine resumes whenever the pending set is empty and no read is in progress, and the
suspend request is dropped (R53). -/
def resumeIfIdle (s : State) : State :=
  if s.memory.engine.suspended = true ∧ s.anyWaiting = false ∧ s.port.reading = none then
    (s.setEngine s.memory.engine.resumed).setSuspendRequest false
  else s

/-- Axis `i`'s waiting read enters the Table Stall count, once however long it waits (R54). -/
def countStall (s : State) (i : AxisIdx) : State :=
  if s.waiting i = true ∧ (s.axis i).stallCounted = false then
    { s with memory := { s.memory with stalls := countUp 65535 1 s.memory.stalls } }.onAxis i
      (fun a => { a with stallCounted := true })
  else s

/-- Under DEFER every pending read is counted: the engine has left IDLE, or entered ABORTING from a
suspension (R54). -/
def countStalls (s : State) : State :=
  if s.clock.settings.policy = .defer then allAxes.foldl countStall s else s

/-! ### Fetches -/

/-- The knot a fetch reads next: the stepped knot, or the midpoint of the search (R44, R45). -/
def Fetch.nextIndex (f : Fetch) : Nat :=
  match f.phase with
  | .stepUp => f.low.index + 1
  | .stepDown => f.high.index - 1
  | .search => (f.low.index + f.high.index) / 2

/-- The fetch's knots are adjacent: it ends with its pair, needing no read (R44, R45). -/
def Fetch.isPair (f : Fetch) : Bool := decide (f.high.index ≤ f.low.index + 1)

/-- A knot read for the fetch becomes its low knot if its time lies at or before the search time and
its high knot otherwise, and a failed step goes on as a search. For a step this is the table of R44: a
forward step that lands after s leaves the pair (low, k), one that does not leaves the search from k,
and a backward step the other way round. For a search it is R45. -/
def Fetch.take (k : KnotRef) (f : Fetch) : Fetch :=
  if k.knot.time ≤ f.time then { f with low := k, phase := .search }
  else { f with high := k, phase := .search }

/-- How a fetch with search time `t` starts from the bracket, between the table's first and last knot
(R44). -/
def Bracket.startFetch (first last : KnotRef) (t : Int) (b : Bracket) : Fetch :=
  match b with
  | .none => { time := t, low := first, high := last, phase := .search }
  | .before => { time := t, low := first, high := last, phase := .stepUp }
  | .after => { time := t, low := first, high := last, phase := .stepDown }
  | .pair low high =>
    if high.knot.time ≤ t then { time := t, low := high, high := last, phase := .stepUp }
    else { time := t, low := first, high := low, phase := .stepDown }

/-- The fetch goes on, or ends with its pair in the bracket (R44, R45, R47). -/
def Axis.holdFetch (f : Fetch) (a : Axis) : Axis :=
  if f.isPair then { a with bracket := .pair f.low f.high, fetch := none }
  else { a with fetch := some f }

/-- A fetch that starts at an evaluation: if it needs a read, the read joins the pending set, unless a
discarded read of the axis still runs (R44, R49). -/
def Axis.beginFetch (f : Fetch) (a : Axis) : Axis :=
  let a' := a.holdFetch f
  if a'.fetch = none ∨ a.fetchState = .discarding then a'
  else { a' with fetchState := .waiting, stallCounted := false }

/-- The axis's fetch is abandoned and its bracket made NONE (R41, R49). -/
def Axis.abandonFetch (a : Axis) : Axis :=
  { a with
    bracket := .none, fetch := none, stallCounted := false
    fetchState :=
      match a.fetchState with
      | .idle | .waiting => .idle
      | .granted | .discarding => .discarding }

/-- Where knot `k` of a table lies: the segment and slot, from the entry's segments with their knot
counts (R42). -/
def locateKnot (k : Nat) : List (Nat × Nat) → Option (Nat × Nat)
  | [] => none
  | (segment, count) :: rest => if k < count then some (segment, k) else locateKnot (k - count) rest

/-- The table id a law names (R62). -/
def Law.tableId : Law → Option TableId
  | .table id _ => Option.some id
  | .none | .linear _ _ _ | .coupled _ _ _ _ | .cued => Option.none

/-- The read axis `i` asks for: the knot its fetch needs, with its segment and slot (R42). -/
def State.readTarget (s : State) (i : AxisIdx) : Option PortRead := do
  let f ← (s.axis i).fetch
  let id ← (s.axis i).law.tableId
  let (segment, slot) ← locateKnot f.nextIndex (s.entry id).segments
  some { axis := i, index := f.nextIndex, segment, slot }

/-- The order of service after `last`: upward from the next index, `last` itself at the end (R51). -/
def serviceOrder (last : AxisIdx) : List AxisIdx := allAxes.map (fun k => last + 1 + k)

/-- The read axis `i` waits for: the one its fetch asks for while it stands in the pending set (R50). -/
def State.askedRead (s : State) (i : AxisIdx) : Option PortRead :=
  if s.waiting i then s.readTarget i else none

/-- The port makes the grant that is due: no read is in progress, the pending set is not empty and the
engine lets reads through; it goes to the axis that comes first in the order of service (R50, R51). Every
event that can bring the three conditions together ends with it, so no grant stays due (DEDUCED, log 25,
safe). -/
def grantRead (s : State) : State :=
  if s.port.reading = none ∧ s.memory.engine.grants = true then
    match (serviceOrder s.port.lastServed).findSome? s.askedRead with
    | none => s
    | some r =>
      { s with port := { s.port with reading := some r, lastServed := r.axis } }.onAxis r.axis
        (fun a => { a with fetchState := .granted, stallCounted := false })
  else s

/-- The port's part when a read of axis `i` has joined the pending set: an idle port grants it at once;
while the engine holds reads up it is counted under DEFER, and raises the suspend request under SERVE (R50,
R52, R54). -/
def postRead (i : AxisIdx) (s : State) : State :=
  if s.memory.engine.grants = true then grantRead s
  else if s.clock.settings.policy = .defer then countStall s i
  else raiseSuspend s

/-- The knot a read delivers from Table Memory (R42). -/
def State.knotAt (s : State) (r : PortRead) : KnotRef :=
  { index := r.index
    knot := (sparseGet r.slot (s.memory.image r.segment).slots).getD
      (Config.emptySlotKnot r.segment r.slot)
    segment := r.segment }

/-- What the completion of a read does to its axis: the fetch takes the knot, or a discarded knot is
dropped and a fetch begun meanwhile asks for its first read (R47, R49, R50). -/
def Axis.takeRead (k : KnotRef) (a : Axis) : Axis :=
  match a.fetchState, a.fetch with
  | .granted, some f =>
    let a' := a.holdFetch (f.take k)
    { a' with fetchState := if a'.fetch = none then .idle else .waiting, stallCounted := false }
  | .discarding, some _ => { a with fetchState := .waiting, stallCounted := false }
  | .granted, none | .discarding, none => { a with fetchState := .idle }
  | .idle, _ | .waiting, _ => a

/-- A granted read completes: its knot goes to its axis, a further read joins the pending set, a
suspended engine with nothing left to wait for resumes, and the port makes its next grant (R47, R50,
R53). -/
def completeRead (s : State) : State :=
  match s.port.reading with
  | none => s
  | some r =>
    let s₁ := { s with port := { s.port with reading := none } }.onAxis r.axis
      (fun a => a.takeRead (s.knotAt r))
    grantRead (resumeIfIdle (if s₁.waiting r.axis then postRead r.axis s₁ else s₁))

end Sys2Proof.Machine
end

