-- ==== Sys2Proof/Machine/TableMemory.lean ====
section
/-! DEFINITION. Table Memory: segments, the Directory, the Staging Buffer, COMMIT and the Rewrite
Engine (spec/04). -/

namespace Sys2Proof.Machine

/-! ### Segments and the start-up scan -/

/-- The header and every knot below its count are present (R58). -/
def imageComplete (header : Option Header) (slots : Sparse Knot) : Bool :=
  match header with
  | none => false
  | some h => (List.range h.count).all (fun k => (sparseGet k slots).isSome)

/-- What is left of a segment's contents when each part may be gone, the completion marker only standing
over a header with all its knots (R58): what an erase stopped short has not yet cleared (R69), or what a
FAILED read-back still shows (R70). Which parts are left is free. -/
def SegmentImage.keeping (draw : Nat) (x : SegmentImage) : SegmentImage :=
  let header := if Config.keepsHeader draw then x.header else none
  let slots := x.slots.filter (fun e => Config.keepsSlot draw e.1)
  { x with header, slots, marker := x.marker && Config.keepsMarker draw && imageComplete header slots }

/-- A segment after `progress` writes of the program phase: the staged knots below the knot count in slot
order, then the header, then the completion marker. What was written before stands (R58, R70, R72). -/
def SegmentImage.written (progress : Nat) (g : Staging) (x : SegmentImage) : SegmentImage :=
  match g.header with
  | none => x
  | some h =>
    let header := if h.count < progress then some h else x.header
    let slots := g.slots.filter (fun e =>
      decide (e.1 < h.count) && (decide (e.1 < progress) || (sparseGet e.1 x.slots).isSome))
    { x with
      header, slots
      marker := (x.marker || decide (h.count + 1 < progress)) && imageComplete header slots }

/-- The number of writes of a whole program phase: the knots, the header and the marker (R70). -/
def Staging.writes (g : Staging) : Nat :=
  match g.header with
  | none => 0
  | some h => h.count + 2

/-- What segment `r` holds where its rewrite is stopped: a part of an erase done, a part of a program phase
written, or, once the phase has been stopped, what it holds already. The open mark stands (R58, R72, R73,
R77). How far a phase has come is free (DESIGN CHOICE, log 4, safe). -/
def TableMemory.stopped (draw : Nat) (r : Rewrite) (t : TableMemory) : SegmentImage :=
  match t.engine with
  | .erasing => { (t.image r.segment).keeping draw with openMark := true }
  | .programming => { (t.image r.segment).written (Config.progress draw) t.staging with openMark := true }
  | .idle | .eraseSuspended | .programSuspended | .aborting =>
    { t.image r.segment with openMark := true }

/-- The class the start-up scan gives a segment (R59). -/
def scanImage (x : SegmentImage) : SegmentRecord :=
  if x.openMark then .torn
  else if x.marker then
    match x.header with
    | none => .torn
    | some h =>
      match sparseGet 0 x.slots, sparseGet (h.count - 1) x.slots with
      | some first, some last => .valid h first last
      | _, _ => .torn
  else if x.header = none ∧ x.slots = [] then .blank
  else .torn

/-- The records the scan of all segments gives; an unlisted segment is erased, and BLANK (R59). -/
def scanRecords (images : Sparse SegmentImage) : Sparse SegmentRecord :=
  images.filterMap (fun e => if scanImage e.2 = .blank then none else some (e.1, scanImage e.2))

/-- A segment's present table id: that of its header while it is VALID (R57). -/
def SegmentRecord.presentTable : SegmentRecord → Option TableId
  | .valid h _ _ => some h.table
  | .blank | .torn | .busy => none

/-! ### The Table Directory -/

/-- A VALID segment that carries an id: its number and its record (R61). -/
structure Claim where
  segment : Nat
  header : Header
  first : Knot
  last : Knot
deriving DecidableEq, Repr

/-- The VALID segments whose header carries `id`. -/
def claimsOf (id : TableId) (records : Sparse SegmentRecord) : List Claim :=
  records.filterMap (fun e =>
    match e.2 with
    | .valid header first last =>
      if header.table = id then some { segment := e.1, header, first, last } else none
    | .blank | .torn | .busy => none)

/-- The claim at sequence `q`. -/
def claimAt (claims : List Claim) (q : Nat) : Option Claim :=
  claims.find? (fun c => decide (c.header.sequence.val = q))

/-- Two claims carry the same sequence (R61). -/
def sequencesClash (claims : List Claim) : Bool :=
  (List.range 16).any (fun q =>
    decide (2 ≤ (claims.filter (fun c => decide (c.header.sequence.val = q))).length))

/-- The lowest sequence that carries the final flag (R61). -/
def finalSequence (claims : List Claim) : Option Nat :=
  (List.range 16).find? (fun q =>
    claims.any (fun c => decide (c.header.sequence.val = q) && c.header.final))

/-- Sequences 0 to `f` are all there, and none above `f` (R61). -/
def sequencesFill (claims : List Claim) (f : Nat) : Bool :=
  (List.range (f + 1)).all (fun q => (claimAt claims q).isSome) &&
    claims.all (fun c => decide (c.header.sequence.val ≤ f))

/-- Each listed segment's last knot time lies below the next one's first knot time (R61). -/
def claimsRise : List Claim → Bool
  | a :: b :: rest => decide (a.last.time < b.first.time) && claimsRise (b :: rest)
  | [_] | [] => true

/-- The sum of the knot counts of a segment list. -/
def totalKnots (segments : List (Nat × Nat)) : Nat := (segments.map Prod.snd).sum

/-- The first and last knot of listed claims, with their indices and segments (spec/04). -/
def endsOf (claims : List Claim) (total : Nat) : Option (KnotRef × KnotRef) := do
  let first ← claims.head?
  let last ← claims.getLast?
  some ({ index := 0, knot := first.first, segment := first.segment },
        { index := total - 1, knot := last.last, segment := last.segment })

/-- The Directory entry built from the claims of an id; its bound-axis set is kept (R61, R62). -/
def buildEntry (id : TableId) (records : Sparse SegmentRecord) (bound : AxisSet) : DirEntry :=
  let claims := claimsOf id records
  let bare (state : DirState) : DirEntry :=
    { state, claims := claims.length, segments := [], total := 0, ends := none, bound }
  if claims = [] then bare .absent
  else if sequencesClash claims then bare .conflicted
  else
    match finalSequence claims with
    | none => bare .part
    | some f =>
      if sequencesFill claims f then
        let listed := (List.range (f + 1)).filterMap (claimAt claims)
        let segments := listed.map (fun c => (c.segment, c.header.count))
        let total := totalKnots segments
        if claimsRise listed then
          { state := .complete, claims := claims.length, segments, total
            ends := endsOf listed total, bound }
        else
          { state := .disordered, claims := claims.length, segments, total, ends := none, bound }
      else bare .part

/-- Table Memory with the entry of `id` rebuilt (R61). -/
def TableMemory.rebuild (t : TableMemory) (id : TableId) : TableMemory :=
  { t with
    directory := t.directory.set id (buildEntry id t.records t.directory[id].bound) }

/-- Table Memory with the entries of a rewrite's old and new table ids rebuilt (R71). -/
def TableMemory.rebuildPair (old new : Option TableId) (t : TableMemory) : TableMemory :=
  let t₁ := match old with | none => t | some id => t.rebuild id
  match new with | none => t₁ | some id => t₁.rebuild id

/-- Table Memory after the start-up scan (R59). -/
def TableMemory.scan (t : TableMemory) : TableMemory :=
  let records := scanRecords t.images
  { t with
    records, startUp := .complete
    directory := Vector.ofFn (fun id => buildEntry id records t.directory[id].bound) }

/-- A rewrite in progress concerns a table id (spec/02, The Axis Law record). -/
def TableMemory.concerns (t : TableMemory) (id : TableId) : Bool :=
  match t.rewrite with
  | none => false
  | some r => decide (t.engine ≠ .idle) && (decide (r.oldTable = some id) || decide (r.newTable = some id))

/-- A table id is usable: its entry is COMPLETE and no rewrite concerns it (spec/02). -/
def TableMemory.usable (t : TableMemory) (id : TableId) : Bool :=
  decide (t.directory[id].state = .complete) && !t.concerns id

/-- The bound-axis sets after axis `i`'s law changes from `old` to `new` (R62). -/
def TableMemory.rebind (i : AxisIdx) (old new : Law) (t : TableMemory) : TableMemory :=
  let leave (t : TableMemory) (id : TableId) : TableMemory :=
    { t with
      directory := t.directory.set id
        { t.directory[id] with bound := dropAxis t.directory[id].bound i } }
  let join (t : TableMemory) (id : TableId) : TableMemory :=
    { t with
      directory := t.directory.set id
        { t.directory[id] with bound := addAxis t.directory[id].bound i } }
  let t₁ := match old.tableId with | none => t | some id => leave t id
  match new.tableId with | none => t₁ | some id => join t₁ id

/-! ### The Staging Buffer -/

/-- The empty Staging Buffer. -/
def Staging.empty : Staging := { header := none, slots := [] }

/-- The Rewrite Engine owns the buffer from a COMMIT's acceptance to the end of that rewrite (R66). -/
def TableMemory.owned (t : TableMemory) : Bool := decide (t.engine ≠ .idle)

/-- STAGE_HEADER (R64). -/
def doStageHeader (table sequence count final : Byte) (s : State) : Result :=
  if s.memory.owned then answerRefused .stagingBusy s
  else
    match readHeader table sequence count final with
    | none => answerRefused .outOfRange s
    | some h =>
      answerDone
        { s with memory := { s.memory with staging := { s.memory.staging with header := some h } } }

/-- Knots written to slots from `first` upward (R65). -/
def putKnots (first : Nat) : List KnotField → Sparse Knot → Sparse Knot
  | [], slots => slots
  | k :: rest, slots => putKnots (first + 1) rest (sparsePut first (knotOf k) slots)

/-- STAGE_KNOTS (R65). -/
def doStageKnots (first : Byte) (knots : List KnotField) (s : State) : Result :=
  if s.memory.owned then answerRefused .stagingBusy s
  else if 62 < first.toNat ∨ 63 < first.toNat + knots.length then answerRefused .outOfRange s
  else
    answerDone
      { s with
        memory :=
          { s.memory with
            staging :=
              { s.memory.staging with
                slots := putKnots first.toNat knots s.memory.staging.slots } } }

/-- STAGE_CLEAR (R66). -/
def doStageClear (s : State) : Result :=
  if s.memory.owned then answerRefused .stagingBusy s
  else answerDone { s with memory := { s.memory with staging := Staging.empty } }

/-! ### COMMIT -/

/-- An axis outside OFF is in the bound-axis set of the id, if there is one (R67, check 3). -/
def State.boundOutsideOff (s : State) (id : Option TableId) : Bool :=
  match id with
  | none => false
  | some id =>
    allAxes.any (fun i => inSet (s.entry id).bound i && decide ((s.axis i).state ≠ .off))

/-- A header is staged and every slot below its knot count is written (R67, check 4). -/
def Staging.filled (g : Staging) : Bool := imageComplete g.header g.slots

/-- The times of slots `from` to `from + n − 1` strictly rise above `t`. -/
def timesRise (slots : Sparse Knot) : Nat → Nat → Int → Bool
  | _, 0, _ => true
  | k, n + 1, t =>
    match sparseGet k slots with
    | none => false
    | some x => decide (t < x.time) && timesRise slots (k + 1) n x.time

/-- The staged knot times below the knot count strictly increase (R67, check 5). -/
def Staging.ordered (g : Staging) : Bool :=
  match g.header, sparseGet 0 g.slots with
  | some h, some x => timesRise g.slots 1 (h.count - 1) x.time
  | _, _ => false

/-- The first failing check of a COMMIT, in the order of R67. -/
def commitRefusal (segment : Nat) (eraseOnly : Option Bool) (s : State) : Option ResultCode :=
  match eraseOnly with
  | none => some .outOfRange
  | some erase =>
    if 256 ≤ segment then some .outOfRange
    else if s.memory.engine ≠ .idle then some .rewriteBusy
    else if s.boundOutsideOff (s.memory.record segment).presentTable ||
        s.boundOutsideOff (s.memory.staging.header.map Header.table) then some .segInUse
    else if !erase && !s.memory.staging.filled then some .incomplete
    else if !erase && !s.memory.staging.ordered then some .disorder
    else none

/-- Table Memory at the acceptance of a COMMIT: the rewrite record is made, the segment becomes BUSY
with its open mark set, and the engine enters ERASING (R58, R68). -/
def TableMemory.accept (segment : Nat) (erase : Bool) (t : TableMemory) : TableMemory :=
  let r : Rewrite :=
    { segment, eraseOnly := erase, oldTable := (t.record segment).presentTable
      newTable := t.staging.header.map Header.table }
  { (t.setRecord segment .busy).setImage segment { t.image segment with openMark := true } with
    engine := .erasing, rewrite := some r }

/-- COMMIT (R67, R68). Reads pending at acceptance raise the suspend request under SERVE and are
counted under DEFER (R52, R54). -/
def doCommit (segment : BitVec 16) (eraseOnly : Byte) (s : State) : Result :=
  match commitRefusal segment.toNat (readFlag eraseOnly) s with
  | some code => answerRefused code s
  | none =>
    answerDone
      (raiseSuspend (countStalls
        { s with
          memory := s.memory.accept segment.toNat ((readFlag eraseOnly).getD false) }))

/-! ### The Rewrite Engine -/

/-- The phase in hand is stopped where it stands: its progress is settled in the segment (R72, R73,
R77). -/
def stopPhase (s : State) : State :=
  match s.memory.engine, s.memory.rewrite with
  | .idle, _ | _, none => s
  | _, some r =>
    { s with memory := s.memory.setImage r.segment (s.memory.stopped s.draws r) }.afterDraw

/-- The end of a rewrite, but for the reads it lets through: the segment takes its new record and contents,
and the rest is as R71 lists it. -/
def closeRewrite (outcome : RewriteOutcome) (record : SegmentRecord) (image : SegmentImage)
    (r : Rewrite) (s : State) : State :=
  let t := (s.memory.setRecord r.segment record).setImage r.segment image
  let t₁ : TableMemory :=
    { t with
      lastOutcome := some (outcome, r.segment), staging := Staging.empty, engine := .idle
      rewrite := none }
  (({ s with memory := t₁.rebuildPair r.oldTable r.newTable }.setSuspendRequest false).raise
    .rewriteEnd)

/-- The end of a rewrite: with the engine IDLE the port grants a pending read (R50, R71). -/
def endRewrite (outcome : RewriteOutcome) (record : SegmentRecord) (image : SegmentImage) (r : Rewrite)
    (s : State) : State :=
  grantRead (closeRewrite outcome record image r s)

/-- Suspend Acknowledge (R72): the engine suspends if the suspend request stands, its progress kept; it
resumes at once if the pending set is empty by then (R53), and otherwise the port makes a grant (R50). -/
def suspendAcknowledge (s : State) : State :=
  if s.port.suspendRequest = true ∧ s.memory.engine.working = true then
    grantRead (resumeIfIdle
      (((stopPhase s).setEngine s.memory.engine.afterAcknowledge).setSuspendRequest false))
  else s

/-- Erase Completion (R69): the segment is erased but for its open mark. An erase-only rewrite ends
ERASED, any other goes on to PROGRAMMING. -/
def eraseComplete (s : State) : State :=
  match s.memory.engine, s.memory.rewrite with
  | .erasing, some r =>
    if r.eraseOnly then endRewrite .erased .blank SegmentImage.erased r s
    else
      raiseSuspend
        ({ s with
           memory := s.memory.setImage r.segment { SegmentImage.erased with openMark := true } }.setEngine
          .programming)
  | _, _ => s

/-- The contents and record of a segment programmed and VERIFIED from the Staging Buffer: the header,
the knots below its count, the marker, and the open mark clear (R70). -/
def programmed (g : Staging) : Option (SegmentRecord × SegmentImage) := do
  let h ← g.header
  let first ← sparseGet 0 g.slots
  let last ← sparseGet (h.count - 1) g.slots
  some (.valid h first last,
    { header := some h, slots := g.slots.filter (fun e => decide (e.1 < h.count)), marker := true
      openMark := false })

/-- Program Completion, with the outcome the memory chose (R70). A FAILED segment keeps its open mark and
carries some or all of what was written; which parts is free. -/
def programComplete (verified : Bool) (s : State) : State :=
  match s.memory.engine, s.memory.rewrite with
  | .programming, some r =>
    match verified, programmed s.memory.staging with
    | true, some (record, image) => endRewrite .verified record image r s
    | _, _ =>
      let g := s.memory.staging
      let whole := (s.memory.image r.segment).written g.writes g
      endRewrite .failed .torn { whole.keeping s.draws with openMark := true } r s.afterDraw
  | _, _ => s

/-- ABORT_REWRITE (R73): the phase stops wherever it stands. Under DEFER an abort out of a suspension counts
the pending reads (R54). -/
def doAbortRewrite (s : State) : Result :=
  let s₁ := ((stopPhase s).setEngine .aborting).setSuspendRequest false
  match s.memory.engine with
  | .idle | .aborting => answerRefused .wrongState s
  | .erasing | .programming => answerDone s₁
  | .eraseSuspended | .programSuspended => answerDone (countStalls s₁)

/-- Abort Completion: the segment becomes TORN with its open mark set, its contents as the abort left them
(R73). -/
def abortComplete (s : State) : State :=
  match s.memory.engine, s.memory.rewrite with
  | .aborting, some r =>
    endRewrite .aborted .torn { s.memory.image r.segment with openMark := true } r s
  | _, _ => s

/-- Table Memory after a UNIT_RESET: the segment of a cut-off rewrite is TORN and its two entries are
rebuilt; the other records and entries are kept; the rest takes its reset values (R78). -/
def TableMemory.unitReset (t : TableMemory) : TableMemory :=
  let t₁ : TableMemory :=
    match t.engine, t.rewrite with
    | .idle, _ | _, none => t
    | _, some r => (t.setRecord r.segment .torn).rebuildPair r.oldTable r.newTable
  { t₁ with
    directory := t₁.directory.map (fun e => { e with bound := 0 })
    staging := Staging.empty, engine := .idle, rewrite := none, lastOutcome := none, stalls := 0 }

end Sys2Proof.Machine
end

