-- ==== Sys2Proof/Machine/AxisStates.lean ====
section
/-! DEFINITION. Axis states, faults, holds, end stops, and the requests that move an axis between
states (spec/06), with the law binding and the Move Queue requests (spec/02). -/

namespace Sys2Proof.Machine

/-! ### Inputs and measured position -/

/-- The value for one input. -/
def PerInput.get {α : Type} (k : InputKind) (x : PerInput α) : α :=
  match k with
  | .home => x.home
  | .limPos => x.limPos
  | .limNeg => x.limNeg
  | .drvFault => x.drvFault

/-- The value for one input replaced. -/
def PerInput.put {α : Type} (k : InputKind) (v : α) (x : PerInput α) : PerInput α :=
  match k with
  | .home => { x with home := v }
  | .limPos => { x with limPos := v }
  | .limNeg => { x with limNeg := v }
  | .drvFault => { x with drvFault := v }

/-- The input of an end stop. -/
def stopInput : EndStop → InputKind
  | .limPos => .limPos
  | .limNeg => .limNeg

/-- An input is active when its accepted level is its active level; UNSETTLED counts as inactive
(R127). -/
def Axis.inputActive (k : InputKind) (a : Axis) : Bool :=
  decide ((a.filters.get k).accepted = some (a.sense.activeLevels.get k))

/-- The position the extended count stands for, before the offset: floor(count × S / E) (R134). -/
def Axis.countPosition (a : Axis) : Int :=
  floorQuot (a.encoder.count * a.motion.steps) a.sense.counts

/-- The measured position, absent in encoder mode NONE (R134). -/
def Axis.measured (a : Axis) : Option Int :=
  if a.sense.encoderMode = .none then none else some (sat64 (a.countPosition + a.encoder.offset))

/-- The following error C − measured position (R136). -/
def Axis.followingError (a : Axis) : Option Int := a.measured.map (fun x => a.c - x)

/-- The FOLLOW check fails: the error exceeds a follow limit that is not 0 (R136). -/
def Axis.followFails (a : Axis) : Bool :=
  match a.followingError with
  | none => false
  | some e => decide (a.sense.followLimit ≠ 0) && decide (a.sense.followLimit < e.natAbs)

/-- The encoder offset set so that the measured position equals C; untouched in encoder mode NONE
(R135). -/
def Axis.tieEncoder (a : Axis) : Axis :=
  if a.sense.encoderMode = .none then a
  else { a with encoder := { a.encoder with offset := sat64 (a.c - a.countPosition) } }

/-! ### The soft clamp -/

/-- A value given to M through the soft clamp, which sets or clears CLAMPED (R37). -/
def Axis.clampTarget (x : Int) (a : Axis) : Axis :=
  { a with
    m := clamp x a.motion.softMin a.motion.softMax
    clamped := decide (x < a.motion.softMin) || decide (a.motion.softMax < x) }

/-- A value given to M outside an evaluation: clamped when the axis is BOUNDED and homed (R37). -/
def Axis.giveTarget (x : Int) (a : Axis) : Axis :=
  if a.motion.kind = .bounded ∧ a.homed = true then a.clampTarget x else { a with m := x }

/-! ### Homing record -/

/-- A homing in progress ends; with none in progress the record stays (R120, R123). -/
def Homing.finish (how : HomingEnd) (h : Homing) : Homing :=
  if h.phase = .none then h
  else { h with phase := .none, paused := false, lastEnd := some (how, h.phase) }

/-! ### Faults -/

/-- Entry to FAULTED, in the axis (R90, R106, R107, R120, R123, R146). -/
def Axis.enterFault (cause : FaultCause) (showLane : Int) (a : Axis) : Axis :=
  { a.abandonFetch with
    v := 0, moves := [], headStart := none, remembered := none, activeLimit := none
    stopTaken := true
    homing := a.homing.finish (if cause = .homeFail then .failed else .ended)
    homed := false
    fault := { cause := cause, time := showLane, stateAt := a.state, further := 0 }
    state := .faulted, output := a.output.park a.motion.parkMode }

/-- Axis `i` enters FAULTED: its fetch is abandoned, with the port's resume if that emptied the pending
set, and AXIS_FAULT is raised (R49, R53, R106). -/
def faultAxis (i : AxisIdx) (cause : FaultCause) (s : State) : State :=
  resumeIfIdle ((s.onAxis i (Axis.enterFault cause s.clock.showLane)).raise (.axisFault i))

/-- A fault cause reaches axis `i`: OFF leaves it, FAULTED counts it, any other state faults
(R105 to R107). -/
def takeCause (cause : FaultCause) (i : AxisIdx) (s : State) : State :=
  match (s.axis i).state with
  | .off => s
  | .faulted =>
    s.onAxis i (fun a =>
      { a with fault := { a.fault with further := countUp 255 1 a.fault.further } })
  | .ready | .homing | .tracking | .frozen | .limited => faultAxis i cause s

/-- Halt Asserted reaches all sixteen axes (R16, R105). -/
def haltAsserted (s : State) : State := allAxes.foldl (fun s i => takeCause .halt i s) s

/-! ### Holds -/

/-- Hold Asserted, as an axis takes it (R102, R122). -/
def Axis.holdAsserted (a : Axis) : Axis :=
  if a.motion.holdResponse = .follow then a
  else
    match a.state with
    | .tracking => { a with state := .frozen }
    | .homing => { a with homing := { a.homing with paused := true } }
    | .limited =>
      if a.remembered = some .tracking then { a with remembered := some .frozen } else a
    | .off | .ready | .frozen | .faulted => a

/-- Hold Released, as an axis takes it (R34, R102, R122). -/
def Axis.holdReleased (a : Axis) : Axis :=
  if a.motion.holdResponse = .follow then a
  else
    match a.state with
    | .frozen => { a with state := .tracking, rebaseDue := true }
    | .homing => { a with homing := { a.homing with paused := false } }
    | .limited =>
      if a.remembered = some .frozen then { a with remembered := some .tracking } else a
    | .off | .ready | .tracking | .faulted => a

/-! ### End stops -/

/-- An end stop is on the side of travel (R103, R121): `d` is M − C, or in HOMING the goal velocity. -/
def stopOnSide (stop : EndStop) (v d : Int) : Bool :=
  match stop with
  | .limPos => decide (0 < v) || decide (0 < d)
  | .limNeg => decide (v < 0) || decide (d < 0)

/-- The state an axis entering LIMITED remembers (R103). -/
def AxisState.toRemembered : AxisState → Option Remembered
  | .ready => some .ready
  | .tracking => some .tracking
  | .frozen => some .frozen
  | .off | .homing | .limited | .faulted => none

/-- The state a remembered state stands for. -/
def Remembered.state : Remembered → AxisState
  | .ready => .ready
  | .tracking => .tracking
  | .frozen => .frozen

/-- The LIMITED entry test of an end stop (R103). -/
def Axis.meetsStop (stop : EndStop) (a : Axis) : Bool :=
  decide (a.motion.kind = .bounded) && a.state.toRemembered.isSome && a.inputActive (stopInput stop) &&
    stopOnSide stop a.v (a.m - a.c)

/-- Entry to LIMITED, in the axis (R90, R103). -/
def Axis.enterLimited (stop : EndStop) (a : Axis) : Axis :=
  { a with
    remembered := a.state.toRemembered, activeLimit := some stop, v := 0, stopTaken := true
    state := .limited }

/-- Axis `i` enters LIMITED and raises LIMIT (R103). -/
def limitAxis (i : AxisIdx) (stop : EndStop) (s : State) : State :=
  (s.onAxis i (Axis.enterLimited stop)).raise (.limit i)

/-! ### ENABLE, DISABLE, TRACK, STOP, FAULT_ACK -/

/-- The two config records agree (R96, check 3). -/
def Axis.configsAgree (a : Axis) : Bool :=
  decide (a.motion.softMin < a.motion.softMax) &&
    (decide (a.motion.kind = .wrapping) ||
      (decide (a.motion.softMin ≤ a.sense.homeOffset) &&
        decide (a.sense.homeOffset ≤ a.motion.softMax))) &&
    (decide (a.sense.homeMode ≠ .switchIndex) || decide (a.sense.encoderMode ≠ .none))

/-- The law's table, if it names one, is usable (R21, R96). -/
def State.lawUsable (s : State) (law : Law) : Bool :=
  match law.tableId with
  | none => true
  | some id => s.memory.usable id

/-- The first failing check of an ENABLE (R96). -/
def enableRefusal (a : Axis) (s : State) : Option ResultCode :=
  if a.state ≠ .off then some .wrongState
  else if s.clock.haltLine.active then some .halted
  else if !a.configsAgree then some .outOfRange
  else if !s.lawUsable a.law then some .tableUnusable
  else none

/-- An accepted ENABLE, in the axis (R97, R135, R146). -/
def Axis.enable (a : Axis) : Axis :=
  let a₁ : Axis :=
    { a.giveTarget a.c with
      state := .ready, v := 0, bracket := .none, output := a.output.activate }
  if a.homed then a₁ else a₁.tieEncoder

/-- ENABLE (R96, R97). -/
def doEnable (axis : Byte) (s : State) : Result :=
  onAxisIndex axis s fun i =>
    match enableRefusal (s.axis i) s with
    | some code => answerRefused code s
    | none => answerDone (s.onAxis i Axis.enable)

/-- A DISABLE that takes an axis to OFF, in the axis (R90, R101, R123, R146). -/
def Axis.disable (a : Axis) : Axis :=
  { a.abandonFetch with
    v := 0, moves := [], headStart := none, remembered := none, activeLimit := none
    stopTaken := true
    homing := a.homing.finish .ended
    homed := a.homed && decide (a.motion.parkMode = .holdTorque)
    state := .off, output := a.output.park a.motion.parkMode }

/-- DISABLE (R101). -/
def doDisable (axis : Byte) (s : State) : Result :=
  onAxisIndex axis s fun i =>
    match (s.axis i).state with
    | .off => answerDone s
    | .faulted => answerRefused .wrongState s
    | .ready | .homing | .tracking | .frozen | .limited =>
      answerDone (resumeIfIdle (s.onAxis i Axis.disable))

/-- The first failing check of a TRACK (R98). -/
def trackRefusal (a : Axis) : Option ResultCode :=
  if a.state ≠ .ready then some .wrongState
  else if a.law = .none then some .wrongState
  else if a.motion.kind = .bounded ∧ a.homed = false then some .notHomed
  else none

/-- TRACK (R98): in a hold a FREEZE axis becomes FROZEN. -/
def doTrack (axis : Byte) (s : State) : Result :=
  onAxisIndex axis s fun i =>
    match trackRefusal (s.axis i) with
    | some code => answerRefused code s
    | none =>
      answerDone (s.onAxis i (fun a =>
        { a with
          rebaseDue := true
          state :=
            if s.clock.holdInForce = true ∧ a.motion.holdResponse = .freeze then .frozen
            else .tracking }))

/-- A STOP in LIMITED, in the axis: READY with M := C (R99). -/
def Axis.stopFromLimited (a : Axis) : Axis :=
  { a.giveTarget a.c with state := .ready, remembered := none, activeLimit := none }

/-- STOP (R99). -/
def doStop (axis : Byte) (s : State) : Result :=
  onAxisIndex axis s fun i =>
    match (s.axis i).state with
    | .tracking | .frozen => answerDone (s.onAxis i (fun a => { a with state := .ready }))
    | .limited => answerDone (s.onAxis i Axis.stopFromLimited)
    | .ready => answerDone s
    | .off | .homing | .faulted => answerRefused .wrongState s

/-- FAULT_ACK (R108). -/
def doFaultAck (axis : Byte) (s : State) : Result :=
  onAxisIndex axis s fun i =>
    match (s.axis i).state with
    | .faulted =>
      answerDone (s.onAxis i (fun a => { a with state := .off, fault := FaultRecord.empty }))
    | .off | .ready | .homing | .tracking | .frozen | .limited => answerRefused .wrongState s

/-! ### HOME -/

/-- An accepted HOME, in the axis (R100, R114); `held` is whether a hold is in force. -/
def Axis.beginHoming (held : Bool) (a : Axis) : Axis :=
  { a with
    state := .homing
    homing :=
      { a.homing with
        speed := min a.sense.homeSpeed a.motion.vmax, start := a.c
        switchPoint := none, reference := none
        phase := if a.inputActive .home then .backOff else .seekSwitch
        paused := held && decide (a.motion.holdResponse = .freeze) } }

/-- HOME (R100, R114). -/
def doHome (axis : Byte) (s : State) : Result :=
  onAxisIndex axis s fun i =>
    if (s.axis i).state ≠ .ready then answerRefused .wrongState s
    else if (s.axis i).sense.homeMode = .none then answerRefused .wrongState s
    else answerDone (s.onAxis i (Axis.beginHoming s.clock.holdInForce))

/-! ### AXIS_MOTION_CONFIG -/

/-- An accepted AXIS_MOTION_CONFIG, in the axis (R33, R38, R88, R94, R147). -/
def Axis.configure (g : MotionConfig) (a : Axis) : Axis :=
  let a₁ : Axis :=
    if g.kind = a.motion.kind ∧ g.steps = a.motion.steps ∧ g.softMin = a.motion.softMin ∧
        g.softMax = a.motion.softMax then a
    else { a with homed := false, clamped := false, rebaseDue := false }
  let a₂ : Axis := if g.kind = .bounded then { a₁ with w := 0 } else a₁
  let a₃ : Axis :=
    if g.backlash = a.motion.backlash then a₂ else { a₂ with lp := 0, lastDir := .positive }
  let a₄ : Axis :=
    if g.parkMode = a.motion.parkMode then a₃
    else { a₃ with output := a₃.output.repark g.parkMode }
  { a₄ with motion := g }

/-- AXIS_MOTION_CONFIG (R83, R94). -/
def doAxisMotionConfig (axis : Byte) (f : MotionFields) (s : State) : Result :=
  onAxisIndex axis s fun i =>
    if (s.axis i).state ≠ .off then answerRefused .wrongState s
    else
      match readMotion f with
      | none => answerRefused .outOfRange s
      | some g => answerClamped (motionSaturates f) (s.onAxis i (Axis.configure g))

/-! ### AXIS_LAW, MOVE, FLUSH -/

/-- The law an AXIS_LAW carries, or the refusal of check 2, of a payload that is not the kind's size, of
check 3 or of check 4 (R21, R177). -/
def readLaw (own : AxisIdx) (kind : Byte) (body : LawBody) : Except ResultCode Law :=
  match kind.toNat, body with
  | 0, .empty => .ok .none
  | 1, .linear phase rate epoch => .ok (.linear phase.toInt rate.toInt epoch.toInt)
  | 2, .table id offset =>
    match readTable id with
    | none => .error .outOfRange
    | some id => .ok (.table id offset.toInt)
  | 3, .coupled source numerator denominator phase =>
    if numerator.toInt = 0 ∨ denominator.toNat = 0 ∨ 2147483648 < denominator.toNat then
      .error .outOfRange
    else if h : source.toNat < own.val then
      .ok (.coupled ⟨source.toNat, by omega⟩ numerator.toInt denominator.toNat phase.toInt)
    else .error .couplingOrder
  | 4, .empty => .ok .cued
  | k, _ => if k ≤ 4 then .error .badLength else .error .outOfRange

/-- The states a law of kind NONE may not be bound in (R21, check 5). -/
def AxisState.needsLaw : AxisState → Bool
  | .tracking | .frozen | .limited => true
  | .off | .ready | .homing | .faulted => false

/-- An accepted AXIS_LAW, in the axis (R22, R110). -/
def Axis.bindLaw (law : Law) (a : Axis) : Axis :=
  { a.abandonFetch with
    law := law, moves := [], headStart := none, offTable := false, stale := false
    sourceHeld := false, rebaseDue := a.rebaseDue || decide (a.state ≠ .off) }

/-- AXIS_LAW (R21, R22, R62). -/
def doAxisLaw (axis kind : Byte) (body : LawBody) (s : State) : Result :=
  onAxisIndex axis s fun i =>
    match readLaw i kind body with
    | .error code => answerRefused code s
    | .ok law =>
      if law = .none ∧ (s.axis i).state.needsLaw = true then answerRefused .wrongState s
      else if (s.axis i).state ≠ .off ∧ s.lawUsable law = false then answerRefused .tableUnusable s
      else
        answerDone (resumeIfIdle
          ({ s with memory := s.memory.rebind i (s.axis i).law law }.onAxis i (Axis.bindLaw law)))

/-- MOVE (R27); the reply carries the occupancy after the addition. -/
def doMove (axis : Byte) (endPosition arrival : BitVec 64) (s : State) : Result :=
  onAxisIndex axis s fun i =>
    if (s.axis i).law ≠ .cued ∨ (s.axis i).state = .faulted then answerRefused .wrongState s
    else if 8 ≤ (s.axis i).moves.length then answerRefused .queueFull s
    else
      answerData [byteOf ((s.axis i).moves.length + 1)]
        (s.onAxis i (fun a =>
          { a with
            moves := a.moves ++ [{ position := endPosition.toInt, arrival := arrival.toInt }] }))

/-- FLUSH (R32); the reply carries the number of records removed. -/
def doFlush (axis : Byte) (s : State) : Result :=
  onAxisIndex axis s fun i =>
    answerData [byteOf (s.axis i).moves.length]
      (s.onAxis i (fun a => { a with moves := [], headStart := none }))

end Sys2Proof.Machine
end

