-- ==== Sys2Proof/Machine/Clock.lean ====
section
/-! DEFINITION. The Sky Clock: lanes, ramps, sets, holds and the Unit Settings (spec/01). -/

namespace Sys2Proof.Machine

/-- The Sky Clock replaced. -/
def State.setClock (k : SkyClock) (s : State) : State := { s with clock := k }

/-! ### Requests to the clock -/

/-- RUN (R4). -/
def doRun (s : State) : Result := answerDone (s.setClock { s.clock with state := .running })

/-- SYNC (R3): the Update Timer starts again, which shows only in when the next LANE_UPDATE comes. -/
def doSync (s : State) : Result := answerDone s

/-- SKY_SET (R9). -/
def doSkySet (value : BitVec 64) (s : State) : Result :=
  answerDone (s.setClock { s.clock with pendingSky := some value.toInt })

/-- SHOW_SET (R9). -/
def doShowSet (value : BitVec 64) (s : State) : Result :=
  answerDone (s.setClock { s.clock with pendingShow := some value.toInt })

/-- The greatest sky rate: 2^47 − 1 (spec/00, Time). -/
def maxSkyRate : Int := 140737488355327

/-- SKY_RATE (R11). -/
def doSkyRate (endRate : BitVec 64) (length : BitVec 16) (s : State) : Result :=
  let stop := clamp endRate.toInt (-maxSkyRate) maxSkyRate
  answerClamped (decide (stop ≠ endRate.toInt))
    (s.setClock
      { s.clock with
        ramp := some
          { startRate := s.clock.rate, endRate := stop, length := length.toNat, taken := 0 } })

/-- The axes take a hold that has just come into force or gone out of force (R13). -/
def handHold (before : Bool) (s : State) : State :=
  match before, s.clock.holdInForce with
  | false, true => s.mapAxes Axis.holdAsserted
  | true, false => s.mapAxes Axis.holdReleased
  | false, false | true, true => s

/-- The software hold set, with the events that gives the axes (R13, R14). -/
def setSoftHold (on : Bool) (s : State) : State :=
  handHold s.clock.holdInForce (s.setClock { s.clock with softHold := on })

/-- HOLD (R14). -/
def doHold (s : State) : Result := answerDone (setSoftHold true s)

/-- RELEASE (R14). -/
def doRelease (s : State) : Result := answerDone (setSoftHold false s)

/-- UNIT_SETTINGS (R17). A change to SERVE while reads wait raises the suspend request at once (R54). -/
def doUnitSettings (policy halts holdWindow haltWindow : Byte) (s : State) : Result :=
  match readPolicy policy, readFlag halts with
  | some policy, some showHaltsOnHold =>
    answerClamped (windowSaturates holdWindow || windowSaturates haltWindow)
      (raiseSuspend (s.setClock
        { s.clock with
          settings :=
            { policy, showHaltsOnHold, holdWindow := saturateWindow holdWindow
              haltWindow := saturateWindow haltWindow } }))
  | _, _ => answerRefused .outOfRange s

/-! ### The lanes at a Lane Update -/

/-- The rate after the ramp's next step, and the ramp after it (R12). -/
def Ramp.next (r : Ramp) : Int × Option Ramp :=
  if r.taken + 1 < r.length then
    (r.startRate + truncQuot ((r.endRate - r.startRate) * (r.taken + 1)) r.length,
      some { r with taken := r.taken + 1 })
  else (r.endRate, none)

/-- The clock after its ramp, if one is present, takes its next step (R12). -/
def SkyClock.stepRamp (k : SkyClock) : SkyClock :=
  match k.ramp with
  | none => k
  | some r => { k with rate := r.next.1, ramp := r.next.2 }

/-- An advancing update: the ramp steps, then the Sky lane adds the rate in force, saturating with the
Sky Limit flag (R6, R10, R12). -/
def SkyClock.advance (k : SkyClock) : SkyClock :=
  let k₁ := k.stepRamp
  let sum := k₁.skyLane + k₁.rate
  { k₁ with skyLane := sat64 sum, skyLimit := k₁.skyLimit || decide (sat64 sum ≠ sum) }

/-- The Sky lane at a Lane Update (R6), with its discontinuity mark (R8). -/
def SkyClock.settleSky (k : SkyClock) : SkyClock × Bool :=
  match k.pendingSky with
  | some x => ({ k with skyLane := x, pendingSky := none }, true)
  | none =>
    if k.state = .running ∧ k.holdInForce = false then (k.advance, false) else (k, false)

/-- The Show lane at a Lane Update (R7), with its discontinuity mark (R8). -/
def SkyClock.settleShow (k : SkyClock) : SkyClock × Bool :=
  match k.pendingShow with
  | some x => ({ k with showLane := x, pendingShow := none }, true)
  | none =>
    if k.state = .stopped ∨ (k.holdInForce = true ∧ k.settings.showHaltsOnHold = true) then
      (k, false)
    else ({ k with showLane := sat64 (k.showLane + 1000) }, false)

/-- The Sky lane saturates at this Lane Update (R10). -/
def SkyClock.saturates (k : SkyClock) : Bool :=
  decide (k.pendingSky = none) && decide (k.state = .running) && !k.holdInForce &&
    decide (sat64 (k.stepRamp.skyLane + k.stepRamp.rate) ≠ k.stepRamp.skyLane + k.stepRamp.rate)

/-- The clock after a Lane Update has settled both lanes, and what the update hands on (R2). -/
def SkyClock.settle (k : SkyClock) : SkyClock × LaneUpdate :=
  let r := k.settleSky
  let q := r.1.settleShow
  (q.1, { skyLane := q.1.skyLane, showLane := q.1.showLane, skyMark := r.2, showMark := q.2 })

end Sys2Proof.Machine
end

