-- ==== Sys2Proof/Machine/Cues.lean ====
section
/-! DEFINITION. The Cue Queue: scheduling, firing and cancelling (spec/10). -/

namespace Sys2Proof.Machine

/-- A cueable request carried out by the block that owns it (R151, R154, R165). -/
def performCueable (r : CueRequest) (s : State) : Result :=
  match r with
  | .skySet value => doSkySet value s
  | .showSet value => doShowSet value s
  | .skyRate endRate length => doSkyRate endRate length s
  | .hold => doHold s
  | .release => doRelease s
  | .axisLaw axis kind body => doAxisLaw axis kind body s
  | .enable axis => doEnable axis s
  | .disable axis => doDisable axis s
  | .track axis => doTrack axis s
  | .stop axis => doStop axis s
  | .move axis endPosition arrival => doMove axis endPosition arrival s
  | .flush axis => doFlush axis s

/-- The outcomes that are no refusal (R166). -/
def ResultCode.accepted : ResultCode → Bool
  | .done | .doneClamped => true
  | .unknownKind | .badLength | .badAxis | .outOfRange | .wrongState | .notReady | .halted | .queueFull
  | .notCueable | .notHomed | .couplingOrder | .tableUnusable | .stagingBusy | .rewriteBusy | .segInUse
  | .incomplete | .disorder => false

/-! ### Scheduling -/

/-- The queue's capacity (R151). -/
def cueCapacity : Nat := 32

/-- A record in its place in firing order: after every record at or before its time, before every later
one (R152). -/
def insertCue (c : CueRecord) : List CueRecord → List CueRecord
  | [] => [c]
  | d :: rest => if d.time ≤ c.time then d :: insertCue c rest else c :: d :: rest

/-- The queue's records replaced. -/
def State.setCues (records : List CueRecord) (s : State) : State :=
  { s with cues := { s.cues with records := records } }

/-- CUE, with the checks of R151 in their order; the reply carries the occupancy after the addition. -/
def doCue (time : BitVec 64) (tag kind : Byte) (payload : List Byte) (s : State) : Result :=
  if cueableKind kind = false then answerRefused .notCueable s
  else
    match decodeCueRequest kind payload with
    | none => answerRefused .badLength s
    | some request =>
      if cueCapacity ≤ s.cues.records.length then answerRefused .queueFull s
      else
        answerData [byteOf (s.cues.records.length + 1)]
          (s.setCues (insertCue { time := time.toInt, tag, request } s.cues.records))

/-- CUE_CANCEL (R157); the reply carries the number of records removed. -/
def doCueCancel (tag : Byte) (s : State) : Result :=
  answerData [byteOf (s.cues.records.countP (fun c => decide (c.tag = tag)))]
    (s.setCues (s.cues.records.filter (fun c => decide (c.tag ≠ tag))))

/-! ### Firing -/

/-- A refused fired cue overwrites the Last Cue Failure record, adds to the count and raises CUE_FAILED
(R155). -/
def recordCueFailure (c : CueRecord) (outcome : ResultCode) (s : State) : State :=
  { s with
    cues :=
      { s.cues with
        lastFailure := some { tag := c.tag, kind := c.request.kind, outcome := outcome }
        failures := countUp 255 1 s.cues.failures } }.raise .cueFailed

/-- A cue fires: its request is performed, and a refusal is recorded (R154, R155). -/
def fireCue (c : CueRecord) (s : State) : State :=
  let r := performCueable c.request s
  if r.outcome.accepted then r.state else recordCueFailure c r.outcome r.state

/-- The head record is removed and fires (R153). -/
def fireHead (s : State) : State :=
  match s.cues.records with
  | [] => s
  | c :: rest => fireCue c (s.setCues rest)

/-- The head record is due at the Show lane value of the pass (R153). -/
def cueDue (showLane : Int) (s : State) : Bool :=
  match s.cues.records with
  | [] => false
  | c :: _ => decide (c.time ≤ showLane)

end Sys2Proof.Machine
end

