-- ==== Sys2Proof/Machine/Encode.lean ====
section
/-! DEFINITION. The codes and field encodings of replies (spec/12, Field encoding, Bit sets). -/

namespace Sys2Proof.Machine

/-! ### Codes, numbered from 0 in the order of spec/12's list -/

/-- Outcome codes. -/
def ResultCode.code : ResultCode → Byte
  | .done => 0x00
  | .doneClamped => 0x01
  | .unknownKind => 0x10
  | .badLength => 0x11
  | .badAxis => 0x12
  | .outOfRange => 0x13
  | .wrongState => 0x14
  | .notReady => 0x15
  | .halted => 0x16
  | .queueFull => 0x17
  | .notCueable => 0x18
  | .notHomed => 0x19
  | .couplingOrder => 0x1A
  | .tableUnusable => 0x1B
  | .stagingBusy => 0x1C
  | .rewriteBusy => 0x1D
  | .segInUse => 0x1E
  | .incomplete => 0x1F
  | .disorder => 0x20

/-- off, on; clear, set; and presence. -/
def flagCode : Bool → Byte
  | false => 0
  | true => 1

/-- low, high. -/
def levelCode : Level → Byte
  | .low => 0
  | .high => 1

/-- Accepted levels: UNSETTLED, LOW, HIGH. -/
def acceptedCode : Option Level → Byte
  | none => 0
  | some .low => 1
  | some .high => 2

/-- positive, negative. -/
def Sense.code : Sense → Byte
  | .positive => 0
  | .negative => 1

/-- Clock state. -/
def ClockState.code : ClockState → Byte
  | .stopped => 0
  | .running => 1

/-- Start-up state. -/
def StartUp.code : StartUp → Byte
  | .scanning => 0
  | .complete => 1

/-- Suspend policy. -/
def SuspendPolicy.code : SuspendPolicy → Byte
  | .serve => 0
  | .defer => 1

/-- Axis kind. -/
def AxisKind.code : AxisKind → Byte
  | .wrapping => 0
  | .bounded => 1

/-- Lane. -/
def Lane.code : Lane → Byte
  | .sky => 0
  | .showing => 1

/-- Hold response. -/
def HoldResponse.code : HoldResponse → Byte
  | .follow => 0
  | .freeze => 1

/-- Park mode. -/
def ParkMode.code : ParkMode → Byte
  | .holdTorque => 0
  | .release => 1
  | .brake => 2

/-- Encoder mode. -/
def EncoderMode.code : EncoderMode → Byte
  | .none => 0
  | .x1 => 1
  | .x2 => 2
  | .x4 => 3

/-- Home mode. -/
def HomeMode.code : HomeMode → Byte
  | .none => 0
  | .switch => 1
  | .switchIndex => 2

/-- Law kind. -/
def Law.code : Law → Byte
  | .none => 0
  | .linear _ _ _ => 1
  | .table _ _ => 2
  | .coupled _ _ _ _ => 3
  | .cued => 4

/-- Axis state. -/
def AxisState.code : AxisState → Byte
  | .off => 0
  | .ready => 1
  | .homing => 2
  | .tracking => 3
  | .frozen => 4
  | .limited => 5
  | .faulted => 6

/-- Remembered state, numbered as the axis states. -/
def Remembered.code : Remembered → Byte
  | .ready => 1
  | .tracking => 3
  | .frozen => 4

/-- Active limit. -/
def limitCode : EndStop → Byte
  | .limPos => 0
  | .limNeg => 1

/-- Fault cause. -/
def FaultCause.code : FaultCause → Byte
  | .none => 0
  | .follow => 1
  | .homeFail => 2
  | .drive => 3
  | .halt => 4

/-- Bracket validity. -/
def Bracket.code : Bracket → Byte
  | .none => 0
  | .pair _ _ => 1
  | .before => 2
  | .after => 3

/-- Fetch state. -/
def FetchState.code : FetchState → Byte
  | .idle => 0
  | .waiting => 1
  | .granted => 2
  | .discarding => 3

/-- Homing phase. -/
def HomingPhase.code : HomingPhase → Byte
  | .none => 0
  | .backOff => 1
  | .seekSwitch => 2
  | .seekIndex => 3
  | .stopping => 4

/-- Last end of a homing; NONE is 0. -/
def HomingEnd.code : HomingEnd → Byte
  | .completed => 1
  | .failed => 2
  | .ended => 3

/-- Output mode. -/
def OutputMode.code : OutputMode → Byte
  | .active => 0
  | .parked => 1
  | .startUp => 2

/-- Segment state. -/
def SegmentRecord.code : SegmentRecord → Byte
  | .blank => 0
  | .valid _ _ _ => 1
  | .torn => 2
  | .busy => 3

/-- Directory state. -/
def DirState.code : DirState → Byte
  | .absent => 0
  | .conflicted => 1
  | .part => 2
  | .disordered => 3
  | .complete => 4

/-- Engine state. -/
def EngineState.code : EngineState → Byte
  | .idle => 0
  | .erasing => 1
  | .eraseSuspended => 2
  | .programming => 3
  | .programSuspended => 4
  | .aborting => 5

/-- Last outcome of Table Memory; NONE is 0. -/
def RewriteOutcome.code : RewriteOutcome → Byte
  | .verified => 1
  | .failed => 2
  | .aborted => 3
  | .erased => 4

/-! ### Fields -/

/-- A two-byte unsigned field. -/
def field16 (n : Nat) : List Byte := bytes16 (BitVec.ofNat 16 n)

/-- A four-byte unsigned field. -/
def field32 (n : Nat) : List Byte := bytes32 (BitVec.ofNat 32 n)

/-- A two-byte signed field. -/
def signed16 (n : Int) : List Byte := bytes16 (BitVec.ofInt 16 n)

/-- An eight-byte signed field. -/
def signed64 (n : Int) : List Byte := bytes64 (BitVec.ofInt 64 n)

/-- `n` bytes of 0. -/
def zeros (n : Nat) : List Byte := List.replicate n 0

/-- The byte of an absent code, table id or one-byte segment number. -/
def absentByte : Byte := 0xFF

/-- A code or table id that may be absent. -/
def optionalCode (x : Option Byte) : List Byte := [x.getD absentByte]

/-- An optional eight-byte value: the presence byte, then the value or 0. -/
def optional64 : Option Int → List Byte
  | none => zeros 9
  | some x => 1 :: signed64 x

/-- A knot: τ then A. -/
def knotField (k : Knot) : List Byte := signed64 k.time ++ signed64 k.angle

/-- A one-byte segment field. -/
def segmentByte (n : Nat) : Byte := BitVec.ofNat 8 n

/-- A knot with its one-byte segment, absent when a state beside it says so. -/
def endField : Option KnotRef → List Byte
  | none => zeros 16 ++ [absentByte]
  | some r => knotField r.knot ++ [segmentByte r.segment]

/-- A pair knot: index, knot, segment. -/
def pairField : Option KnotRef → List Byte
  | none => zeros 18 ++ [absentByte]
  | some r => field16 r.index ++ knotField r.knot ++ [segmentByte r.segment]

/-- A segment header: table id, sequence, knot count, final. -/
def headerField : Option Header → List Byte
  | none => [absentByte, 0, 0, absentByte]
  | some h => [BitVec.ofNat 8 h.table, BitVec.ofNat 8 h.sequence, BitVec.ofNat 8 h.count, flagCode h.final]

/-- A byte of flags, bit 0 first. -/
def flagsField (flags : List Bool) : Byte := BitVec.ofNat 8 (flagByte flags)

/-- The Attention Set: unit causes, then the AXIS_FAULT, CAPTURE and LIMIT axis sets. -/
def attentionField (t : Attention) : List Byte :=
  flagsField [t.rewriteEnd, t.cueFailed, t.linkError, t.skyLimit] ::
    (bytes16 t.axisFault ++ bytes16 t.capture ++ bytes16 t.limit)

/-- The Axis Motion Config as written, from kind onward. -/
def motionField (g : MotionConfig) : List Byte :=
  g.kind.code :: (field32 g.steps ++ [g.lane.code] ++ field16 g.vmax ++ field16 g.amax ++
    field16 g.backlash ++ signed64 g.softMin ++ signed64 g.softMax ++ field32 g.lagLimit ++
    [g.holdResponse.code, g.parkMode.code])

/-- One byte for each input, in the order HOME, LIM_POS, LIM_NEG, DRV_FAULT. -/
def inputsField {α : Type} (f : α → Byte) (x : PerInput α) : List Byte :=
  [f x.home, f x.limPos, f x.limNeg, f x.drvFault]

/-- The Axis Sense Config as written, from encoder mode onward. -/
def senseField (g : SenseConfig) : List Byte :=
  [g.encoderMode.code, flagCode g.invert] ++ field32 g.counts ++ field32 g.followLimit ++
    [g.homeMode.code, g.homeDirection.code] ++ field16 g.homeSpeed ++ field32 g.travelLimit ++
    signed64 g.homeOffset ++ inputsField levelCode g.activeLevels ++
    inputsField (BitVec.ofNat 8) g.windows

end Sys2Proof.Machine
end

