-- ==== Sys2Proof/Machine/Motion.lean ====
section
/-! DEFINITION. The motion limiter, the LAG flag and the backlash take-up (spec/05). -/

namespace Sys2Proof.Machine

/-- The sign a sense stands for. -/
def Sense.unit : Sense → Int
  | .positive => 1
  | .negative => -1

/-- The velocity the axis would wish for: sign(d) × min(Vmax, |d|, isqrt(2 × Amax × |d|)) (R80). -/
def wishedVelocity (vmax amax : Nat) (d : Int) : Int :=
  sign d * (min vmax (min d.natAbs (isqrt (2 * amax * d.natAbs))) : Nat)

/-- A step of the velocity toward a goal by at most Amax (R80, R115). -/
def approach (amax : Nat) (v goal : Int) : Int := v + clamp (goal - v) (-(amax : Int)) amax

/-- The landing clamp (R81). -/
def landingClamp (d v : Int) : Int :=
  if d.natAbs < v.natAbs ∧ (d = 0 ∨ sign v = sign d) then d else v

/-- The velocity step (R80, R81). -/
def velocityStep (vmax amax : Nat) (d v : Int) : Int :=
  landingClamp d (approach amax v (wishedVelocity vmax amax d))

/-- C and v after a new velocity; when C saturates the velocity is the change C made (R82). -/
def Axis.drive (v : Int) (a : Axis) : Axis :=
  { a with c := sat64 (a.c + v), v := sat64 (a.c + v) - a.c }

/-- The LAG test, made in READY, TRACKING, FROZEN and LIMITED (R84). -/
def Axis.testLag (a : Axis) : Axis :=
  { a with
    lag := decide (a.motion.lagLimit ≠ 0) && decide (a.motion.lagLimit < (a.m - a.c).natAbs) }

/-- The end of the lash for a direction: 0 or −B (R85). -/
def lashEnd (backlash : Nat) (dir : Sense) : Int :=
  match dir with
  | .positive => 0
  | .negative => -(backlash : Int)

/-- The last direction after the reversal test (R85). -/
def afterReversal (v : Int) (dir : Sense) : Sense :=
  if v < 0 then .negative else if 0 < v then .positive else dir

/-- The take-up of an update: the distance from Lp to the end of the last direction, at most
500 − |v|, with the sign of the last direction (R86). -/
def takeUp (backlash : Nat) (dir : Sense) (lp v : Int) : Int :=
  dir.unit * (min (lashEnd backlash dir - lp).natAbs (500 - v.natAbs) : Nat)

/-- The take-up made: Lp moves toward the end of the last direction (R85, R86). -/
def Axis.takeUpLash (a : Axis) : Axis :=
  let dir := afterReversal a.v a.lastDir
  { a with lastDir := dir, lp := a.lp + takeUp a.motion.backlash dir a.lp a.v }

/-- The step count of a turn: the new velocity and the take-up (R86). -/
def stepCount (before after : Axis) : Int := after.v + (after.lp - before.lp)

/-- The velocity step of an axis in READY, TRACKING or FROZEN, with C, the LAG flag and the take-up
(R79, R80, R82, R84, R85, R86). -/
def Axis.moveTowardTarget (a : Axis) : Axis :=
  (a.drive (velocityStep a.motion.vmax a.motion.amax (a.m - a.c) a.v)).testLag.takeUpLash

/-- A turn makes no motion and hands 0 for a stop the axis has taken since its last turn (R90). What such a
turn does in a state that moves is open between R90 and R79 or R104 (DESIGN CHOICE, log 27, safe). -/
def Axis.standsStill (a : Axis) : Bool := a.stopTaken && Config.stopHoldsTurn

end Sys2Proof.Machine
end

