-- ==== Sys2Proof/Machine/Homing.lean ====
section
/-! DEFINITION. Homing: its velocity command, its phases and their events (spec/07). -/

namespace Sys2Proof.Machine

/-- The goal velocity of the phase in force; 0 while paused (spec/07, the homing velocity command). -/
def Axis.homingGoal (a : Axis) : Int :=
  if a.homing.paused then 0
  else
    match a.homing.phase with
    | .backOff => -(a.sense.homeDirection.unit * (a.homing.speed : Int))
    | .seekSwitch | .seekIndex => a.sense.homeDirection.unit * (a.homing.speed : Int)
    | .stopping | .none => 0

/-- The phases in which the travel limit is tested (R120). -/
def HomingPhase.seeks : HomingPhase → Bool
  | .backOff | .seekSwitch | .seekIndex => true
  | .none | .stopping => false

/-- The travel limit test fails (R120). -/
def Axis.travelExceeded (a : Axis) : Bool :=
  a.homing.phase.seeks && decide (a.sense.travelLimit < (a.c - a.homing.start).natAbs)

/-- An end stop input faults a homing: BOUNDED, active, and on the side of travel (R121). -/
def Axis.homingMeetsStop (stop : EndStop) (a : Axis) : Bool :=
  decide (a.motion.kind = .bounded) && a.inputActive (stopInput stop) &&
    stopOnSide stop a.v a.homingGoal

/-- HOME accepted active or inactive in a homing (R116 to R119). -/
def Axis.homingTakesHome (active : Bool) (a : Axis) : Axis :=
  match a.homing.phase with
  | .backOff =>
    if active then a else { a with homing := { a.homing with phase := .seekSwitch } }
  | .seekSwitch =>
    if active then
      if a.sense.homeMode = .switchIndex then
        { a with homing := { a.homing with switchPoint := some a.c, phase := .seekIndex } }
      else
        { a with
          homing :=
            { a.homing with
              switchPoint := some a.c, reference := some a.c, phase := .stopping } }
    else a
  | .none | .seekIndex | .stopping => a

/-- An index event in a homing: it ends SEEK_INDEX and is dropped in every other phase (R118). -/
def Axis.homingTakesIndex (a : Axis) : Axis :=
  match a.homing.phase with
  | .seekIndex =>
    { a with homing := { a.homing with reference := some a.c, phase := .stopping } }
  | .none | .backOff | .seekSwitch | .stopping => a

/-- The homing command and the take-up of a homing turn (R115, items 4 to 7). -/
def Axis.homingMove (a : Axis) : Axis :=
  { a.drive (approach a.motion.amax a.v a.homingGoal) with lag := false }.takeUpLash

/-- C − C_ref taken from the reference the homing found; a STOPPING phase always has one. -/
def Axis.overrun (a : Axis) : Int := a.c - a.homing.reference.getD a.c

/-- Homing completion (R119). -/
def Axis.completeHoming (a : Axis) : Axis :=
  let a₁ := { a with c := sat64 (a.sense.homeOffset + a.overrun) }.tieEncoder
  let a₂ := { a₁ with homed := true }.giveTarget a.sense.homeOffset
  { a₂ with
    homing :=
      { a.homing with
        phase := .none, paused := false, lastEnd := some (.completed, .stopping)
        distance := a.homing.reference.bind (fun r => a.homing.switchPoint.map (fun p => r - p)) }
    state := .ready }

/-- The completion test: in STOPPING, homing completes when v is 0 (R119). -/
def Axis.testCompletion (a : Axis) : Axis :=
  if a.homing.phase = .stopping ∧ a.v = 0 then a.completeHoming else a

/-- The homing turn of axis `i` after the standing DRV_FAULT test: the failures, then the homing command or
the stand that R90 lays down, then the completion test (R90, R115). -/
def homingTurn (i : AxisIdx) (s : State) : State :=
  let a := s.axis i
  if a.travelExceeded || a.homingMeetsStop .limPos || a.homingMeetsStop .limNeg then
    handOver i 0 (faultAxis i .homeFail s)
  else if a.standsStill then
    (handOver i 0 (s.setAxis i { a with lag := false })).onAxis i Axis.testCompletion
  else
    (handOver i (stepCount a a.homingMove) (s.setAxis i a.homingMove)).onAxis i Axis.testCompletion

end Sys2Proof.Machine
end

