-- ==== Sys2Proof/Machine/Sense.lean ====
section
/-! DEFINITION. Sense Inputs: the line and switch filters, what their acceptances do, the encoder and
the index capture (spec/01, spec/07, spec/08). -/

namespace Sys2Proof.Machine

/-! ### The Hold and Halt line filters -/

/-- A sample of the Hold or Halt line: `level` is whether the line is asserted, `window` its filter
window. The second part says whether the sample accepted the other level (R15). -/
def LineFilter.sample (window : Nat) (level : Bool) (f : LineFilter) : LineFilter × Bool :=
  if level = f.active then ({ f with runCount := 0 }, false)
  else if window + 1 ≤ f.runCount + 1 then ({ active := level, runCount := 0 }, true)
  else ({ f with runCount := f.runCount + 1 }, false)

/-- The Hold and Halt lines are asserted when low (R15). -/
def Level.asserted : Level → Bool
  | .low => true
  | .high => false

/-- A sample of the Hold line; an acceptance goes to the Sky Clock, which hands the hold on (R13,
R15). -/
def sampleHold (level : Level) (s : State) : State :=
  let r := s.clock.holdLine.sample s.clock.settings.holdWindow (Level.asserted level)
  handHold s.clock.holdInForce (s.setClock { s.clock with holdLine := r.1 })

/-- A sample of the Halt line; an acceptance as active hands on Halt Asserted (R15, R16). -/
def sampleHalt (level : Level) (s : State) : State :=
  let r := s.clock.haltLine.sample s.clock.settings.haltWindow (Level.asserted level)
  let s₁ := s.setClock { s.clock with haltLine := r.1 }
  if r.2 && r.1.active then haltAsserted s₁ else s₁

/-! ### The switch input filters -/

/-- What a sample of a switch input brings: nothing, a change of the accepted level, or the settling of
an UNSETTLED filter (R125, R126). -/
inductive Acceptance
  | nothing | change | settling
deriving DecidableEq, Repr

/-- A sample of a switch input with filter window `window` (R125, R126). -/
def Filter.sample (window : Nat) (level : Level) (f : Filter) : Filter × Acceptance :=
  match f.accepted with
  | some now =>
    if level = now then ({ f with runCount := 0 }, .nothing)
    else if window + 1 ≤ f.runCount + 1 then
      ({ f with accepted := some level, runCount := 0 }, .change)
    else ({ f with runCount := f.runCount + 1 }, .nothing)
  | none =>
    let count := if f.runCount = 0 ∨ level ≠ f.runLevel then 1 else f.runCount + 1
    if window + 1 ≤ count then
      ({ accepted := some level, runLevel := level, runCount := 0 }, .settling)
    else ({ accepted := none, runLevel := level, runCount := count }, .nothing)

/-- What the axis context is handed: an acceptance as active or inactive. Settling on the inactive level
hands nothing on (R126, R127). -/
def Acceptance.handed (active : Bool) : Acceptance → Option Bool
  | .nothing => none
  | .change => some active
  | .settling => if active then some true else none

/-- HOME accepted active or inactive: taken by a homing, otherwise shown (R127). -/
def handHome (i : AxisIdx) (active : Bool) (s : State) : State :=
  if (s.axis i).state = .homing then s.onAxis i (Axis.homingTakesHome active) else s

/-- An end stop accepted active or inactive (R103, R121, R127). -/
def handLimit (i : AxisIdx) (stop : EndStop) (active : Bool) (s : State) : State :=
  if active = false then s
  else if (s.axis i).state = .homing then
    if (s.axis i).homingMeetsStop stop then faultAxis i .homeFail s else s
  else if (s.axis i).meetsStop stop then limitAxis i stop s
  else s

/-- DRV_FAULT accepted active or inactive (R105, R107, R127). -/
def handDrvFault (i : AxisIdx) (active : Bool) (s : State) : State :=
  if active then takeCause .drive i s else s

/-- An acceptance handed on to the axis context of axis `i` (R127). -/
def handInput (i : AxisIdx) (k : InputKind) (active : Bool) (s : State) : State :=
  match k with
  | .home => handHome i active s
  | .limPos => handLimit i .limPos active s
  | .limNeg => handLimit i .limNeg active s
  | .drvFault => handDrvFault i active s

/-- A sample of one switch input of axis `i`, with what its acceptance does (R125 to R127). -/
def sampleInput (i : AxisIdx) (k : InputKind) (level : Level) (s : State) : State :=
  let a := s.axis i
  let r := (a.filters.get k).sample (a.sense.windows.get k) level
  let s₁ := s.setAxis i { a with filters := a.filters.put k r.1 }
  match r.2.handed ((s₁.axis i).inputActive k) with
  | none => s₁
  | some active => handInput i k active s₁

/-- Whether a sample of this level completes a change or a settling on the active level, so that the
filter hands an acceptance on. -/
def inputAccepts (i : AxisIdx) (k : InputKind) (level : Level) (s : State) : Bool :=
  let a := s.axis i
  let r := (a.filters.get k).sample (a.sense.windows.get k) level
  (r.2.handed (decide (level = a.sense.activeLevels.get k))).isSome

/-! ### AXIS_SENSE_CONFIG -/

/-- An accepted AXIS_SENSE_CONFIG, in the axis (R95, R113, R132, R141). -/
def Axis.configureSense (g : SenseConfig) (a : Axis) : Axis :=
  { a with
    sense := g
    homed := a.homed &&
      (decide (g.encoderMode = a.sense.encoderMode) && decide (g.invert = a.sense.invert) &&
        decide (g.counts = a.sense.counts) && decide (g.homeOffset = a.sense.homeOffset)) }

/-- An input whose meaning a write of its active level turned is handed on as an acceptance (R128). -/
def handTurned (before : Axis) (i : AxisIdx) (s : State) (k : InputKind) : State :=
  if before.inputActive k = (s.axis i).inputActive k then s
  else handInput i k ((s.axis i).inputActive k) s

/-- AXIS_SENSE_CONFIG (R95, R113, R128, R133). -/
def doAxisSenseConfig (axis : Byte) (f : SenseFields) (s : State) : Result :=
  onAxisIndex axis s fun i =>
    if (s.axis i).state ≠ .off then answerRefused .wrongState s
    else
      match readSenseConfig f with
      | none => answerRefused .outOfRange s
      | some g =>
        answerClamped (senseSaturates f)
          ([InputKind.home, .limPos, .limNeg, .drvFault].foldl (handTurned (s.axis i) i)
            (s.onAxis i (Axis.configureSense g)))

/-! ### The encoder -/

/-- The place of a pair state in the forward cycle 00, 10, 11, 01 (spec/08, Counting). -/
def cyclePlace : Level × Level → Nat
  | (.low, .low) => 0
  | (.high, .low) => 1
  | (.high, .high) => 2
  | (.low, .high) => 3

/-- The count of one transition before inversion, by encoder mode (R130). A glitch counts 0 (R131). -/
def edgeCount (mode : EncoderMode) (old new : Level × Level) : Int :=
  let turn : Int :=
    match (cyclePlace new + 4 - cyclePlace old) % 4 with
    | 1 => 1
    | 3 => -1
    | _ => 0
  match mode with
  | .none => 0
  | .x4 => turn
  | .x2 => if old.1 = new.1 then 0 else turn
  | .x1 => if old.1 = new.1 ∨ new.2 = .high then 0 else turn

/-- Both lines change (R131). -/
def isGlitch (old new : Level × Level) : Bool := decide (old.1 ≠ new.1) && decide (old.2 ≠ new.2)

/-- The encoder lines of an axis show a pair state (R130 to R132). -/
def Axis.seePair (new : Level × Level) (a : Axis) : Axis :=
  match a.encoder.pair with
  | none => { a with encoder := { a.encoder with pair := some new } }
  | some old =>
    let d := edgeCount a.sense.encoderMode old new
    { a with
      encoder :=
        { a.encoder with
          pair := some new
          count := sat64 (a.encoder.count + if a.sense.invert then -d else d)
          glitches :=
            if isGlitch old new ∧ a.sense.encoderMode ≠ .none then
              countUp 255 1 a.encoder.glitches
            else a.encoder.glitches } }

/-! ### Index capture -/

/-- An index event taken into the Index Capture record (R138). -/
def IndexCapture.take (x : Capture) (r : IndexCapture) : IndexCapture :=
  if r.pending then { r with missed := countUp 255 1 r.missed }
  else { r with current := some x, previous := r.current, pending := true }

/-- An index event of axis `i`: it goes to a homing in HOMING, otherwise to the record, with the CAPTURE
cause when the record takes it (R118, R137, R138, R140). -/
def indexEventTaken (i : AxisIdx) (s : State) : State :=
  let a := s.axis i
  if a.sense.encoderMode = .none then s
  else if a.state = .homing then s.onAxis i Axis.homingTakesIndex
  else
    let x : Capture := { count := a.encoder.count, time := s.clock.showLane }
    let s₁ := s.setAxis i
      { a with encoder := { a.encoder with capture := a.encoder.capture.take x } }
    if a.encoder.capture.pending then s₁ else s₁.raise (.capture i)

/-- ENC_I of axis `i` shows a level: a rise from a level seen low is an index event (R137). -/
def seeIndex (i : AxisIdx) (level : Level) (s : State) : State :=
  let a := s.axis i
  let s₁ := s.setAxis i { a with encoder := { a.encoder with index := some level } }
  if a.encoder.index = some .low ∧ level = .high then indexEventTaken i s₁ else s₁

end Sys2Proof.Machine
end

