-- ==== Sys2Proof/Machine/Queries.lean ====
section
/-! DEFINITION. The four queries and CLEAR (R60, R63, R76, R91, R111, R124, R139, R148, R159, R172,
R173, R178; spec/12, Query replies). -/

namespace Sys2Proof.Machine

/-! ### STATUS_QUERY -/

/-- The clock flags byte. -/
def clockFlags (k : SkyClock) : Byte :=
  flagsField [k.skyLimit, k.softHold, k.holdLine.active, k.haltLine.active, k.holdInForce]

/-- The ramp: presence, start rate, end rate, L, steps taken. -/
def rampField : Option Ramp → List Byte
  | none => zeros 21
  | some r =>
    1 :: (signed64 r.startRate ++ signed64 r.endRate ++ field16 r.length ++ field16 r.taken)

/-- The Unit Settings as written. -/
def settingsField (g : UnitSettings) : List Byte :=
  [g.policy.code, flagCode g.showHaltsOnHold, BitVec.ofNat 8 g.holdWindow, BitVec.ofNat 8 g.haltWindow]

/-- STATUS 0, part 0 (53 bytes). -/
def statusUnit (s : State) : List Byte :=
  [s.memory.startUp.code, s.link.ownAddress.zeroExtend 8, s.clock.state.code, clockFlags s.clock] ++
    signed64 s.clock.skyLane ++ signed64 s.clock.showLane ++ signed64 s.clock.rate ++
    rampField s.clock.ramp ++ settingsField s.clock.settings

/-- The head record: activation time and tag. -/
def headField : List CueRecord → List Byte
  | [] => zeros 9
  | c :: _ => signed64 c.time ++ [c.tag]

/-- The Last Cue Failure record: presence, tag, kind, outcome. -/
def failureField : Option CueFailure → List Byte
  | none => zeros 4
  | some f => [1, f.tag, f.kind, f.outcome.code]

/-- STATUS 0, part 1 (49 bytes). The Reply Queue occupancy counts the query's own reply (R167). -/
def statusQueues (s : State) : List Byte :=
  optional64 s.clock.pendingSky ++ optional64 s.clock.pendingShow ++ attentionField s.link.attention ++
    field16 s.link.framingErrors ++ field16 s.link.checkErrors ++ field16 s.link.requestOverruns ++
    field16 s.link.returnOverruns ++
    [byteOf (s.link.replies.length + 1), byteOf s.cues.records.length] ++ headField s.cues.records ++
    failureField s.cues.lastFailure ++ [byteOf s.cues.failures]

/-- The rewrite record: presence, segment, erase-only, old id, new id. -/
def rewriteField : Option Rewrite → List Byte
  | none => zeros 6
  | some r =>
    1 :: (field16 r.segment ++ [flagCode r.eraseOnly] ++
      optionalCode (r.oldTable.map (fun t => BitVec.ofNat 8 t)) ++
      optionalCode (r.newTable.map (fun t => BitVec.ofNat 8 t)))

/-- The last outcome and its segment. -/
def outcomeField : Option (RewriteOutcome × Nat) → List Byte
  | none => [0, absentByte, absentByte]
  | some (x, segment) => x.code :: field16 segment

/-- STATUS 1, part 0 (20 bytes; R76). -/
def statusMemory (s : State) : List Byte :=
  [s.memory.engine.code] ++ rewriteField s.memory.rewrite ++ outcomeField s.memory.lastOutcome ++
    [flagCode s.memory.staging.header.isSome] ++ headerField s.memory.staging.header ++
    [byteOf s.memory.staging.slots.length, flagCode s.memory.owned, s.clock.settings.policy.code] ++
    field16 s.memory.stalls

/-- STATUS_QUERY (R173, R178). -/
def doStatusQuery (page part : Byte) (s : State) : Result :=
  match page.toNat, part.toNat with
  | 0, 0 => answerData (statusUnit s) s
  | 0, 1 => answerData (statusQueues s) s
  | 1, 0 => answerData (statusMemory s) s
  | _, _ => answerRefused .outOfRange s

/-! ### AXIS_QUERY -/

/-- The axis flags byte. -/
def axisFlags (a : Axis) : Byte :=
  flagsField [a.offTable, a.stale, a.late, a.clamped, a.lag, a.sourceHeld,
    decide (a.lastDir = .negative)]

/-- AXIS 0, part 0 (54 bytes). -/
def axisMotion (a : Axis) : List Byte :=
  [a.state.code] ++ optionalCode (a.remembered.map Remembered.code) ++
    optionalCode (a.activeLimit.map limitCode) ++
    [flagCode a.homed, axisFlags a, a.law.code, byteOf a.moves.length] ++ signed64 a.p ++
    signed64 a.w ++ signed64 a.m ++ signed64 a.c ++ signed16 a.v ++ signed16 a.lp ++
    [a.fault.cause.code] ++ signed64 a.fault.time ++ [a.fault.stateAt.code, byteOf a.fault.further]

/-- The head start: presence, Ts, Ps. -/
def startField : Option HeadStart → List Byte
  | none => zeros 17
  | some h => 1 :: (signed64 h.time ++ signed64 h.position)

/-- AXIS 0, part 1 (27 bytes). -/
def axisHead (a : Axis) : List Byte :=
  startField a.headStart ++ [a.bracket.code, a.fetchState.code] ++ signed64 a.wanted

/-- AXIS 0, part 2 (38 bytes). -/
def axisPair (a : Axis) : List Byte :=
  match a.bracket with
  | .pair low high => pairField (some low) ++ pairField (some high)
  | .none | .before | .after => pairField none ++ pairField none

/-- The open window's sign, count and pulses begun. -/
def windowField : Option Window → List Byte
  | none => absentByte :: zeros 4
  | some w => w.sense.code :: (field16 w.count ++ field16 w.begun)

/-- The inputs active byte. -/
def activeInputs (a : Axis) : Byte :=
  flagsField [a.inputActive .home, a.inputActive .limPos, a.inputActive .limNeg,
    a.inputActive .drvFault]

/-- The drive lines byte. -/
def driveLines (o : Output) : Byte :=
  flagsField [o.parkPending, o.enable, o.brake, decide (o.dir = .negative), o.window.isSome]

/-- The following error as a reply carries it, 0 when absent. DEDUCED (log 21): a value beyond 64 bits
saturates, as every final value with a stated range does (spec/00, Arithmetic). -/
def errorField (a : Axis) : List Byte :=
  match a.followingError with
  | none => zeros 8
  | some e => signed64 (sat64 e)

/-- AXIS 1, part 0 (46 bytes; R134, R136, R148). -/
def axisSense (a : Axis) : List Byte :=
  signed64 a.encoder.count ++ signed64 a.encoder.offset ++ optional64 a.measured ++ errorField a ++
    [byteOf a.encoder.glitches] ++ inputsField (fun f => acceptedCode f.accepted) a.filters ++
    [activeInputs a, a.output.mode.code, driveLines a.output] ++ windowField a.output.window

/-- One capture: presence, count, Show lane time. -/
def captureField : Option Capture → List Byte
  | none => zeros 17
  | some x => 1 :: (signed64 x.count ++ signed64 x.time)

/-- AXIS 1, part 1 (36 bytes; R139). -/
def axisCapture (r : IndexCapture) : List Byte :=
  captureField r.current ++ captureField r.previous ++ [flagCode r.pending, byteOf r.missed]

/-- The last end of a homing and its phase. -/
def endingField : Option (HomingEnd × HomingPhase) → List Byte
  | none => [0, absentByte]
  | some (x, phase) => [x.code, phase.code]

/-- AXIS 1, part 2 (41 bytes; R124). -/
def axisHoming (h : Homing) : List Byte :=
  [h.phase.code, flagCode h.paused] ++ field16 h.speed ++ signed64 h.start ++
    optional64 h.switchPoint ++ optional64 h.reference ++ endingField h.lastEnd ++
    optional64 (h.distance.map sat64)

/-- The release of LATE by an AXIS page 0 part 0 reply (R31, R178). -/
def Axis.releaseLate (a : Axis) : Axis := { a with late := false }

/-- The release of the Index Capture record by an AXIS page 1 part 1 reply (R139, R178). -/
def Axis.releaseCapture (a : Axis) : Axis :=
  { a with
    encoder :=
      { a.encoder with capture := { a.encoder.capture with pending := false, missed := 0 } } }

/-- AXIS_QUERY (R93, R173, R178). -/
def doAxisQuery (axis page part : Byte) (s : State) : Result :=
  onAxisIndex axis s fun i =>
    let a := s.axis i
    match page.toNat, part.toNat with
    | 0, 0 => answerData (axisMotion a) (s.onAxis i Axis.releaseLate)
    | 0, 1 => answerData (axisHead a) s
    | 0, 2 => answerData (axisPair a) s
    | 0, 3 => answerData (motionField a.motion) s
    | 1, 0 => answerData (axisSense a) s
    | 1, 1 => answerData (axisCapture a.encoder.capture) (s.onAxis i Axis.releaseCapture)
    | 1, 2 => answerData (axisHoming a.homing) s
    | 1, 3 => answerData (senseField a.sense) s
    | _, _ => answerRefused .outOfRange s

/-! ### TABLE_QUERY and SEGMENT_QUERY -/

/-- TABLE, part 0 (42 bytes; R63). -/
def tableEntry (inRewrite : Bool) (e : DirEntry) : List Byte :=
  [e.state.code] ++ field16 e.claims ++ [flagCode inRewrite] ++ field16 e.total ++
    endField (e.ends.map Prod.fst) ++ endField (e.ends.map Prod.snd) ++ bytes16 e.bound

/-- TABLE, part 1 (33 bytes): the listed segments, the unused places of the 16 as FF and 0. -/
def tableSegments (segments : List (Nat × Nat)) : List Byte :=
  byteOf segments.length ::
    (List.range 16).flatMap (fun k =>
      match segments[k]? with
      | some (segment, count) => [segmentByte segment, byteOf count]
      | none => [absentByte, 0])

/-- TABLE_QUERY (R63, R178). -/
def doTableQuery (table part : Byte) (s : State) : Result :=
  match readTable table, part.toNat with
  | some id, 0 => answerData (tableEntry (s.memory.concerns id) (s.entry id)) s
  | some id, 1 => answerData (tableSegments (s.entry id).segments) s
  | _, _ => answerRefused .outOfRange s

/-- The engine fields of a segment reply, filled for BUSY only. -/
def segmentEngine (t : TableMemory) : SegmentRecord → List Byte
  | .busy => t.engine.code :: optionalCode (t.rewrite.map (fun r => flagCode r.eraseOnly))
  | .blank | .torn | .valid _ _ _ => [absentByte, absentByte]

/-- The header and knots of a segment reply, filled for VALID only. -/
def segmentContents : SegmentRecord → List Byte
  | .valid header first last => headerField (some header) ++ knotField first ++ knotField last
  | .blank | .torn | .busy => headerField none ++ zeros 32

/-- SEGMENT (39 bytes; R60). -/
def segmentField (t : TableMemory) (r : SegmentRecord) : List Byte :=
  r.code :: (segmentContents r ++ segmentEngine t r)

/-- SEGMENT_QUERY (R60). -/
def doSegmentQuery (segment : BitVec 16) (s : State) : Result :=
  if 256 ≤ segment.toNat then answerRefused .outOfRange s
  else answerData (segmentField s.memory (s.memory.record segment.toNat)) s

/-! ### CLEAR -/

/-- A count, or 0 where a CLEAR names it. -/
def clearCount (named : Bool) (n : Nat) : Nat := if named then 0 else n

/-- The glitch counts of the named axes become 0. -/
def clearGlitches (set : AxisSet) (axes : Vector Axis 16) : Vector Axis 16 :=
  Vector.ofFn (fun i : AxisIdx =>
    { axes[i] with
      encoder :=
        { axes[i].encoder with
          glitches := clearCount (inSet set i) axes[i].encoder.glitches } })

/-- The state after a CLEAR (R10, R172). -/
def cleared (f : ClearFields) (s : State) : State :=
  { s with
    clock := { s.clock with skyLimit := s.clock.skyLimit && !f.unitCauses.getLsbD 3 }
    axes := clearGlitches f.glitch s.axes
    cues := { s.cues with failures := clearCount (f.counters.getLsbD 5) s.cues.failures }
    memory := { s.memory with stalls := clearCount (f.counters.getLsbD 4) s.memory.stalls }
    link :=
      { s.link with
        attention := s.link.attention.clear f
        framingErrors := clearCount (f.counters.getLsbD 0) s.link.framingErrors
        checkErrors := clearCount (f.counters.getLsbD 1) s.link.checkErrors
        requestOverruns := clearCount (f.counters.getLsbD 2) s.link.requestOverruns
        returnOverruns := clearCount (f.counters.getLsbD 3) s.link.returnOverruns } }

/-- CLEAR; the reply carries the Attention Set after the removal (R172). -/
def doClear (f : ClearFields) (s : State) : Result :=
  answerData (attentionField (cleared f s).link.attention) (cleared f s)

end Sys2Proof.Machine
end

