-- ==== Sys2Proof/Machine/Resets.lean ====
section
/-! DEFINITION. The two resets, the loss of power and the end of the start-up scan (R18, R40, R56, R59,
R77, R78, R92, R112, R129, R142, R149, R150, R160, R174, R175). -/

namespace Sys2Proof.Machine

/-- The Link Port after a reset that read `straps`; the lines Return In, Show Out and Return Out keep
what they last showed (R162, R174, R175). -/
def LinkPort.afterReset (straps : BitVec 5) (k : LinkPort) : LinkPort :=
  { LinkPort.reset straps with
    returnIdle := k.returnIdle, showOut := k.showOut, returnOut := k.returnOut }

/-- Every block at its power-on reset values, with the segments as the memory holds them; a rewrite in
hand is cut off (R77). The scan is still to come. -/
def resetBlocks (straps : BitVec 5) (power : Power) (s : State) : State :=
  let s₁ := stopPhase s
  { s₁ with
    power := power, clock := SkyClock.reset, axes := Vector.replicate 16 Axis.reset
    cues := CueQueue.reset, memory := TableMemory.powerOn s₁.memory.images
    port := TablePort.reset, link := s₁.link.afterReset straps, work := none }

/-- POWER_ON_RESET: power-on, or the release of the Reset line. The straps are read at its end (R18,
R163, R175). -/
def powerOnReset (straps : BitVec 5) (s : State) : State := resetBlocks straps .on s

/-- RESET_LINE_ASSERTED: the unit enters reset. The own address is held until the reset ends (R163,
R175). Without power nothing happens. -/
def resetLineAsserted (s : State) : State :=
  match s.power with
  | .off => s
  | .on | .inReset => resetBlocks s.link.ownAddress .inReset s

/-- POWER_LOSS: the segments keep what the memory holds (R77) and nothing is repeated (R162). DESIGN
CHOICE (log 7), unsafe: the volatile state without power is shown at its reset values. -/
def powerLoss (s : State) : State :=
  match s.power with
  | .off => s
  | .on | .inReset => { resetBlocks 0 .off s with link := LinkPort.reset 0 }

/-- Start-up Scan Completion (R59, R149). It comes only to a unit that is scanning out of reset. -/
def startUpScanCompletion (s : State) : State :=
  if s.power = .on ∧ s.memory.startUp = .scanning then
    { s with memory := s.memory.scan }.mapAxes
      (fun a => { a with output := { a.output with mode := .parked } })
  else s

/-- One axis after a UNIT_RESET: its reset values, with Step Outputs cut off (R112, R150). -/
def Axis.unitReset (a : Axis) : Axis := { Axis.reset with output := a.output.unitReset }

/-- A UNIT_RESET takes effect: every block takes its UNIT_RESET values and the straps are read (R174). -/
def unitReset (straps : BitVec 5) (s : State) : State :=
  let s₁ := stopPhase s
  { s₁ with
    clock := SkyClock.reset, axes := s₁.axes.map Axis.unitReset, cues := CueQueue.reset
    memory := s₁.memory.unitReset, port := TablePort.reset
    link := s₁.link.afterReset straps, work := none }

end Sys2Proof.Machine
end

