-- ==== Sys2Proof/Machine/Requests.lean ====
section
/-! DEFINITION. Requests at the Link Port: their tests, their owners, the Reply Queue (R5, R163, R165 to
R167, R174, R175). -/

namespace Sys2Proof.Machine

/-- The Link Port replaced. -/
def State.setLink (k : LinkPort) (s : State) : State := { s with link := k }

/-- A link error of any kind: the port with its risen count, and LINK_ERROR raised (R164, R167, R169). -/
def linkError (k : LinkPort) (s : State) : State := (s.setLink k).raise .linkError

/-- The Reply Queue's capacity (R167). -/
def replyCapacity : Nat := 4

/-- UNIT_RESET (R174): an addressed one sets reset pending, a broadcast one takes effect at once. -/
def doUnitReset (o : Origin) (straps : BitVec 5) (s : State) : Result :=
  match o with
  | .addressed => answerDone (s.setLink { s.link with resetPending := true })
  | .broadcast => answerDone (unitReset straps s)

/-- A request carried out by its owner (R165). -/
def perform (o : Origin) (r : Request) (s : State) : Result :=
  match r with
  | .cueable r => performCueable r s
  | .run => doRun s
  | .sync => doSync s
  | .unitSettings policy halts holdWindow haltWindow => doUnitSettings policy halts holdWindow haltWindow s
  | .unitReset straps => doUnitReset o straps s
  | .axisMotionConfig axis f => doAxisMotionConfig axis f s
  | .axisSenseConfig axis f => doAxisSenseConfig axis f s
  | .home axis => doHome axis s
  | .faultAck axis => doFaultAck axis s
  | .cue time tag kind payload => doCue time tag kind payload s
  | .cueCancel tag => doCueCancel tag s
  | .stageHeader table sequence count final => doStageHeader table sequence count final s
  | .stageKnots first knots => doStageKnots first knots s
  | .stageClear => doStageClear s
  | .commit segment eraseOnly => doCommit segment eraseOnly s
  | .abortRewrite => doAbortRewrite s
  | .statusQuery page part => doStatusQuery page part s
  | .axisQuery axis page part => doAxisQuery axis page part s
  | .tableQuery table part => doTableQuery table part s
  | .segmentQuery segment => doSegmentQuery segment s
  | .clear f => doClear f s

/-- The kind code of STATUS_QUERY. -/
def statusQueryKind : Byte := 0x30

/-- The kinds a broadcast does not carry out: the four queries (R165). -/
def isQueryKind (kind : Byte) : Bool := [0x30, 0x31, 0x32, 0x33].contains kind.toNat

/-- Test 3 of R165: the start-up state is COMPLETE, or the kind is STATUS_QUERY. -/
def State.takesKind (kind : Byte) (s : State) : Bool :=
  decide (s.memory.startUp = .complete) || decide (kind = statusQueryKind)

/-- Tests 2 to 4 of R165, then the owner. `request` is what the payload spells, none where its size is
not the kind's. -/
def judge (o : Origin) (kind : Byte) (request : Option Request) (s : State) : Result :=
  if requestKind kind = false then answerRefused .unknownKind s
  else if s.takesKind kind = false then answerRefused .notReady s
  else
    match request with
    | none => answerRefused .badLength s
    | some r => perform o r s

/-- The reply to an addressed request joins the tail of the Reply Queue (R167). -/
def placeReply (kind : Byte) (r : Result) : State :=
  r.state.setLink
    { r.state.link with
      replies :=
        r.state.link.replies ++
          [{ address := r.state.link.ownAddress, kind, outcome := r.outcome, data := r.data }] }

/-- The own address is one a frame can be addressed to: 1 to 30 (R163; spec/00, Numbering and
addresses). -/
def LinkPort.addressable (k : LinkPort) : Bool := decide (k.ownAddress ≠ 0) && decide (k.ownAddress ≠ 31)

/-- The unit takes frames: it has power, is out of reset, and no UNIT_RESET is pending (R174, R175). -/
def State.takesRequests (s : State) : Bool :=
  decide (s.power = .on) && !s.link.resetPending

/-- An addressed request arrives (R165, R167). A request cannot be addressed to a unit whose own address
is 0 or 31. -/
def takeAddressed (kind : Byte) (request : Option Request) (s : State) : State :=
  if s.takesRequests = false ∨ s.link.addressable = false then s
  else if replyCapacity ≤ s.link.replies.length then
    linkError
      { s.link with requestOverruns := countUp 65535 1 s.link.requestOverruns } s
  else placeReply kind (judge .addressed kind request s)

/-- A broadcast request arrives: no reply, and no trace of a refusal or a query (R165). -/
def takeBroadcast (kind : Byte) (request : Option Request) (s : State) : State :=
  if s.takesRequests = false ∨ isQueryKind kind = true then s
  else (judge .broadcast kind request s).state

/-- A good frame of kind `kind` arrives as a request. -/
def takeRequest (o : Origin) (kind : Byte) (request : Option Request) (s : State) : State :=
  match o with
  | .addressed => takeAddressed kind request s
  | .broadcast => takeBroadcast kind request s

/-- A request whose term is at hand arrives. -/
def arrive (o : Origin) (r : Request) (s : State) : State := takeRequest o r.kind (some r) s

end Sys2Proof.Machine
end

