-- ==== Sys2Proof/Machine/Link.lean ====
section
/-! DEFINITION. Frames on the forward line and the return line's relay (R161, R162, R164, R168 to R170,
R174 to R176). -/

namespace Sys2Proof.Machine

/-! ### The check -/

/-- One shift of the check register (R176). -/
def crcShift (r : BitVec 16) : BitVec 16 := if r.msb then (r <<< 1) ^^^ 0x1021 else r <<< 1

/-- One character taken into the check register (R176). -/
def crcByte (r : BitVec 16) (b : Byte) : BitVec 16 :=
  Nat.repeat crcShift 8 (r ^^^ (b.zeroExtend 16 <<< 8))

/-- The check over kind, length and payload (R176). -/
def crc16 (bytes : List Byte) : BitVec 16 := bytes.foldl crcByte 0xFFFF

/-! ### Replies as frames -/

/-- The kind code of REPLY. -/
def replyKind : Byte := 0x40

/-- The characters of a reply after the address: kind, length, payload (spec/12). -/
def Reply.body (r : Reply) : List Byte :=
  [replyKind, byteOf (r.data.length + 2), r.kind, r.outcome.code] ++ r.data

/-- The characters a reply puts on Return Out (R167, R176). -/
def Reply.frame (r : Reply) : List LinkChar :=
  { data := r.address.zeroExtend 8, mark := true, goodStop := true } ::
    (r.body ++ bytes16 (crc16 r.body)).map (fun b => { data := b, mark := false, goodStop := true })

/-! ### The forward line -/

/-- The frames a unit takes: addressed to it, or to 31; an own address of 0 takes only 31 (R161,
R176). -/
def LinkPort.takes (address : Byte) (k : LinkPort) : Bool :=
  decide (address = 31) || (decide (k.ownAddress ≠ 0) && decide (address = k.ownAddress.zeroExtend 8))

/-- The most characters of a frame (R161). -/
def maxFrame : Nat := 63

/-- A framing error: counted, with LINK_ERROR (R161, R164). -/
def framingError (s : State) : State :=
  linkError { s.link with framingErrors := countUp 65535 1 s.link.framingErrors } s

/-- A check error: counted, with LINK_ERROR (R164). -/
def checkError (s : State) : State :=
  linkError { s.link with checkErrors := countUp 65535 1 s.link.checkErrors } s

/-- The frame being assembled replaced. -/
def State.setFrame (f : Option FrameIn) (s : State) : State := s.setLink { s.link with frame := f }

/-- An unmarked character joins the frame being assembled; a frame not taken keeps nothing (R161). -/
def FrameIn.extend (c : LinkChar) (f : FrameIn) : FrameIn :=
  if f.taken = false then f
  else if maxFrame ≤ f.chars.length then { f with bad := true }
  else { f with chars := f.chars ++ [c.data], bad := f.bad || !c.goodStop }

/-- A marked character begins a frame (R161, R176). -/
def beginFrame (c : LinkChar) (s : State) : State :=
  s.setFrame (some
    { address := c.data, taken := s.link.takes c.data
      chars := if s.link.takes c.data then [c.data] else [], bad := !c.goodStop })

/-- A character taken by frame assembly: it begins, cuts off or extends a frame, or is a stray (R161,
R164). -/
def assemble (c : LinkChar) (s : State) : State :=
  match c.mark, s.link.frame with
  | true, some f => beginFrame c (if f.taken then framingError s else s)
  | true, none => beginFrame c s
  | false, some f => s.setFrame (some (f.extend c))
  | false, none => framingError s

/-- SHOW_IN_CHARACTER: the character is repeated on Show Out whenever there is power, and taken by frame
assembly out of reset (R161, R162, R175). -/
def showInCharacter (c : LinkChar) (s : State) : State :=
  let s₁ := s.setLink { s.link with showOut := some c }
  match s.power with
  | .off => s
  | .inReset => s₁
  | .on => assemble c s₁

/-- Kind, length, payload and the two check characters of a frame that passes test 1 of R164. -/
structure GoodFrame where
  kind : Byte
  length : Byte
  payload : List Byte
  check : BitVec 16
deriving DecidableEq, Repr

/-- Test 1 of R164 on the characters of a taken frame. -/
def FrameIn.parse (f : FrameIn) : Option GoodFrame :=
  match f.bad, f.chars with
  | false, _address :: kind :: length :: rest =>
    if length.toNat ≤ 58 ∧ rest.length = length.toNat + 2 then
      match rest.drop length.toNat with
      | [high, low] => some { kind, length, payload := rest.take length.toNat, check := high ++ low }
      | _ => none
    else none
  | _, _ => none

/-- Test 2 of R164. -/
def GoodFrame.checks (g : GoodFrame) : Bool :=
  decide (g.check = crc16 (g.kind :: g.length :: g.payload))

/-- The origin of a frame's request by its address. -/
def FrameIn.origin (f : FrameIn) : Origin := if f.address = 31 then .broadcast else .addressed

/-- FRAME_END: the frame being assembled ends; a taken one is tested and a good one arrives as a request
(R164, R165). -/
def frameEnd (straps : BitVec 5) (s : State) : State :=
  match s.power, s.link.frame with
  | .on, some f =>
    let s₁ := s.setFrame none
    if f.taken = false then s₁
    else
      match f.parse with
      | none => framingError s₁
      | some g =>
        if g.checks = false then checkError s₁
        else takeRequest f.origin g.kind (decodeRequest straps g.kind g.payload) s₁
  | _, _ => s

/-! ### The return line -/

/-- The Return Buffer's capacity in characters (R169). -/
def returnCapacity : Nat := 72

/-- Whether a buffer item is a character; an end mark takes no place (R168). -/
def BufferItem.isChar : BufferItem → Bool
  | .char _ => true
  | .endMark => false

/-- How many characters the Return Buffer holds. -/
def LinkPort.buffered (k : LinkPort) : Nat := k.returnBuffer.countP BufferItem.isChar

/-- A character at Return In out of reset (R168, R169). A marked character is the first of its frame
(R161), so the dropping of an earlier frame ends with it. -/
def relayIn (c : LinkChar) (s : State) : State :=
  let k := { s.link with returnIdle := false }
  if k.returnDropping = true ∧ c.mark = false then s.setLink k
  else
    let k := { k with returnDropping := false }
    if k.relay = .direct ∧ k.returnBuffer = [] then s.setLink { k with returnOut := [c] }
    else if returnCapacity ≤ k.buffered then
      linkError
        { k with returnDropping := true, returnOverruns := countUp 65535 1 k.returnOverruns } s
    else s.setLink { k with returnBuffer := k.returnBuffer ++ [.char c] }

/-- RETURN_IN_CHARACTER (R168, R169); in reset the relay is DIRECT (R175). -/
def returnInCharacter (c : LinkChar) (s : State) : State :=
  match s.power with
  | .off => s
  | .inReset => s.setLink { s.link with returnIdle := false, returnOut := [c] }
  | .on => relayIn c s

/-- The buffer with a frame end mark after its last character, if it ends in one (R168). -/
def markEnd (buffer : List BufferItem) : List BufferItem :=
  match buffer.getLast? with
  | some (.char _) => buffer ++ [.endMark]
  | some .endMark | none => buffer

/-- RETURN_IN_IDLE: Return In has been idle for three character times after a frame (R168). -/
def returnInIdle (s : State) : State :=
  match s.power with
  | .off => s
  | .inReset => s.setLink { s.link with returnIdle := true }
  | .on =>
    if s.link.returnIdle then s
    else
      s.setLink
        { s.link with
          returnIdle := true, returnDropping := false, returnBuffer := markEnd s.link.returnBuffer }

/-- GAP_END: the relay goes on from the buffer, or back to DIRECT (R168). -/
def gapEnd (s : State) : State :=
  if s.power = .on ∧ s.link.relay = .gap then
    s.setLink
      { s.link with relay := if s.link.returnBuffer.any BufferItem.isChar then .buffered else .direct }
  else s

/-- BUFFERED_CHARACTER_SENT: the head character leaves; a frame end mark behind it is removed and makes a
GAP; an empty buffer makes DIRECT (R168). -/
def bufferedCharacterSent (s : State) : State :=
  if s.power = .on ∧ s.link.relay = .buffered then
    match s.link.returnBuffer with
    | .char c :: .endMark :: rest =>
      s.setLink { s.link with returnOut := [c], returnBuffer := rest, relay := .gap }
    | [.char c] => s.setLink { s.link with returnOut := [c], returnBuffer := [], relay := .direct }
    | .char c :: .char d :: rest =>
      s.setLink { s.link with returnOut := [c], returnBuffer := .char d :: rest }
    | .endMark :: rest => s.setLink { s.link with returnBuffer := rest, relay := .gap }
    | [] => s.setLink { s.link with relay := .direct }
  else s

/-- The conditions of an own reply's start (R170). -/
def LinkPort.mayStart (k : LinkPort) : Bool :=
  decide (k.replies ≠ []) && decide (k.relay = .direct) && decide (k.returnBuffer = []) && k.returnIdle

/-- OWN_REPLY_START (R170). -/
def ownReplyStart (s : State) : State :=
  if s.power = .on ∧ s.link.mayStart = true then
    s.setLink { s.link with sending := true, relay := .ownReply }
  else s

/-- OWN_REPLY_END: the reply in progress has left, and with the reply of an addressed UNIT_RESET the
reset takes effect (R167, R168, R174). The UNIT_RESET's reply is the last of the queue, since every
request behind it was dropped. -/
def ownReplyEnd (straps : BitVec 5) (s : State) : State :=
  if s.power = .on ∧ s.link.sending = true then
    match s.link.replies with
    | [] => s
    | r :: rest =>
      let s₁ := s.setLink
        { s.link with replies := rest, sending := false, relay := .gap, returnOut := r.frame }
      if s.link.resetPending = true ∧ rest = [] then unitReset straps s₁ else s₁
  else s

end Sys2Proof.Machine
end

