-- ==== Sys2Proof/Machine/LawEngine.lean ====
section
/-! DEFINITION. The law stage, the wrap base, the gear transform and the soft clamp (spec/02), with the
evaluation of a TABLE axis against its bracket (spec/03). -/

namespace Sys2Proof.Machine

/-- LINEAR: phase + floor((t − t0) × rate / 2^48), saturated (R23). -/
def linearTarget (phase rate epoch t : Int) : Int :=
  sat64 (phase + floorQuot ((t - epoch) * rate) 281474976710656)

/-- COUPLED: phase + floor(P_source × numerator / denominator), saturated (R26). -/
def coupledTarget (source numerator : Int) (denominator : Nat) (phase : Int) : Int :=
  sat64 (phase + floorQuot (source * numerator) denominator)

/-- The value between two knots at time `t` (R24). -/
def interpolate (low high : Knot) (t : Int) : Int :=
  low.angle + floorQuot ((t - low.time) * (high.angle - low.angle)) (high.time - low.time)

/-- A TABLE evaluation sets P to offset + value, saturated, and clears STALE (R24). -/
def Axis.setTableTarget (offset value : Int) (offTable : Bool) (a : Axis) : Axis :=
  { a with p := sat64 (offset + value), offTable := offTable, stale := false }

/-- The bracket holds a pair that contains `t` (R24, R43). -/
def Bracket.holds (t : Int) : Bracket → Bool
  | .pair low high => decide (low.knot.time ≤ t) && decide (t < high.knot.time)
  | .none | .before | .after => false

/-- The value of a bracket's pair at `t`. -/
def Bracket.value (t : Int) : Bracket → Int
  | .pair low high => interpolate low.knot high.knot t
  | .none | .before | .after => 0

/-- Off the table the validity becomes BEFORE or AFTER, unless a fetch is present (R43). -/
def Axis.noteOffTable (b : Bracket) (a : Axis) : Axis :=
  if a.fetch = none then { a with bracket := b } else a

/-- The law stage of a TABLE axis, with whether it set P (R24, R25, R43, R44). An entry without ends
holds P; no axis that evaluates has one (law 8). -/
def Axis.tableStage (e : DirEntry) (offset t : Int) (a : Axis) : Axis × Bool :=
  match e.ends with
  | none => ({ a with stale := true }, false)
  | some (first, last) =>
    if t < first.knot.time then
      ((a.setTableTarget offset first.knot.angle true).noteOffTable .before, true)
    else if last.knot.time ≤ t then
      ((a.setTableTarget offset last.knot.angle true).noteOffTable .after, true)
    else if a.bracket.holds t then (a.setTableTarget offset (a.bracket.value t) false, true)
    else if a.fetch ≠ none then ({ a with wanted := t, stale := true }, false)
    else
      let a₁ := { a with wanted := t }.beginFetch (a.bracket.startFetch first last t)
      if a₁.bracket.holds t then (a₁.setTableTarget offset (a₁.bracket.value t) false, true)
      else ({ a₁ with stale := true }, false)

/-- What the CUED law leaves: P, the queue, its head start and the LATE flag. -/
structure CuedStage where
  p : Int
  moves : List Move
  headStart : Option HeadStart
  late : Bool
deriving DecidableEq, Repr

/-- The law stage of a CUED axis over its queue (R28 to R31). -/
def cuedStage (t : Int) : List Move → Option HeadStart → Int → Bool → CuedStage
  | [], _, p, late => { p, moves := [], headStart := none, late }
  | m :: rest, start, p, late =>
    let h := start.getD { time := t, position := p }
    let next : Option HeadStart := some { time := m.arrival, position := m.position }
    if m.arrival ≤ h.time then cuedStage t rest next m.position true
    else if m.arrival ≤ t then cuedStage t rest next m.position late
    else if t < h.time then { p := h.position, moves := m :: rest, headStart := some h, late }
    else
      { p := sat64 (h.position +
          floorQuot ((t - h.time) * (m.position - h.position)) (m.arrival - h.time))
        moves := m :: rest, headStart := some h, late }

/-- The axis after the law stage of a CUED axis. -/
def Axis.cuedLaw (t : Int) (a : Axis) : Axis :=
  let r := cuedStage t a.moves a.headStart a.p a.late
  { a with p := r.p, moves := r.moves, headStart := r.headStart, late := r.late }

/-- The law stage of axis `a` at lane time `t`, with whether it set P (R19, R104). A CUED axis with an
empty queue and a law of kind NONE keep P; only a STALE TABLE axis counts as not having set it (R34). -/
def Axis.lawStage (s : State) (t : Int) (a : Axis) : Axis × Bool :=
  match a.law with
  | .none => (a, true)
  | .linear phase rate epoch => ({ a with p := linearTarget phase rate epoch t }, true)
  | .table id offset => a.tableStage (s.entry id) offset t
  | .coupled source numerator denominator phase =>
    ({ a with
       p := coupledTarget (s.axis source).p numerator denominator phase
       sourceHeld := decide ((s.axis source).state ≠ .tracking) }, true)
  | .cued => (a.cuedLaw t, true)

/-- The wrap base a rebase gives (R35). -/
def rebasedWrap (p c : Int) (steps : Nat) : Int :=
  clamp (revolution * floorQuot (p - floorQuot (c * revolution) steps + 2147483648) revolution)
    minInt64 maxWrapBase

/-- The wrap base stage (R33, R35). -/
def Axis.rebase (setP : Bool) (a : Axis) : Axis :=
  if a.motion.kind = .wrapping ∧ a.rebaseDue = true ∧ setP = true then
    { a with w := rebasedWrap a.p a.c a.motion.steps, rebaseDue := false }
  else a

/-- The motor target of P and W: floor((P − W) × S / 2^32), saturated (R36). -/
def gearTarget (p w : Int) (steps : Nat) : Int := sat64 (floorQuot ((p - w) * steps) revolution)

/-- The gear transform, and for a BOUNDED axis the soft clamp (R36, R37). -/
def Axis.gear (a : Axis) : Axis :=
  match a.motion.kind with
  | .bounded => a.clampTarget (gearTarget a.p a.w a.motion.steps)
  | .wrapping => { a with m := gearTarget a.p a.w a.motion.steps }

/-- The lane value an axis follows (R19). -/
def LaneUpdate.time (u : LaneUpdate) (lane : Lane) : Int :=
  match lane with | .sky => u.skyLane | .showing => u.showLane

/-- The discontinuity mark an axis sees (R8). -/
def LaneUpdate.mark (u : LaneUpdate) (lane : Lane) : Bool :=
  match lane with | .sky => u.skyMark | .showing => u.showMark

/-- An evaluation of an axis: law stage, wrap base, gear transform, soft clamp (R19, R34). -/
def Axis.evaluate (s : State) (u : LaneUpdate) (a : Axis) : Axis :=
  let a₁ : Axis := { a with rebaseDue := a.rebaseDue || u.mark a.motion.lane }
  let r := a₁.lawStage s (u.time a.motion.lane)
  (r.1.rebase r.2).gear

/-- Axis `i` evaluates; a read it then asks for joins the pending set (R44, R50). -/
def evaluateAxis (u : LaneUpdate) (i : AxisIdx) (s : State) : State :=
  let s₁ := s.setAxis i ((s.axis i).evaluate s u)
  if s₁.waiting i = true ∧ s.waiting i = false then postRead i s₁ else s₁

end Sys2Proof.Machine
end

