-- ==== Sys2Proof/Machine/Update.lean ====
section
/-! DEFINITION. The work of one Lane Update: the lanes, the sixteen axis turns and the firing pass, step by
step (R2, R19, R20, R79, R103 to R105, R115, R136, R153, R158). -/

namespace Sys2Proof.Machine

/-- A turn that moves nothing: in OFF and FAULTED the LAG flag is cleared and the count is 0 (R79,
R84). -/
def idleTurn (i : AxisIdx) (s : State) : State :=
  handOver i 0 (s.onAxis i (fun a => { a with lag := false }))

/-- A fault found at the start of a turn: the turn hands 0 and goes no further (R105). -/
def faultTurn (i : AxisIdx) (cause : FaultCause) (s : State) : State :=
  handOver i 0 (faultAxis i cause s)

/-- A turn that ends in LIMITED, or that stands for a stop taken before it: C stays, the LAG test is made and
the count is 0 (R79, R84, R90, R103). -/
def standingTurn (i : AxisIdx) (s : State) : State := handOver i 0 (s.onAxis i Axis.testLag)

/-- The velocity step and the take-up of a turn, and its step count (R79, R86). -/
def moveTurn (i : AxisIdx) (s : State) : State :=
  handOver i (stepCount (s.axis i) (s.axis i).moveTowardTarget) (s.onAxis i Axis.moveTowardTarget)

/-- The rest of a turn in READY, TRACKING or FROZEN once M stands: the standing end stop test, LIM_POS
first, then the motion, or the stand of a stop taken before the turn (R90, R103). -/
def drivenTurn (i : AxisIdx) (s : State) : State :=
  if (s.axis i).meetsStop .limPos then standingTurn i (limitAxis i .limPos s)
  else if (s.axis i).meetsStop .limNeg then standingTurn i (limitAxis i .limNeg s)
  else if (s.axis i).standsStill then standingTurn i s
  else moveTurn i s

/-- The away test of an axis in LIMITED (R104). -/
def Axis.isAway (a : Axis) : Bool :=
  match a.activeLimit with
  | some .limPos => decide (a.m < a.c)
  | some .limNeg => decide (a.c < a.m)
  | none => false

/-- The return from LIMITED to the remembered state (R104). -/
def Axis.returnFromLimited (a : Axis) : Axis :=
  match a.remembered with
  | some r => { a with state := r.state, remembered := none, activeLimit := none }
  | none => a

/-- A turn of an axis in READY, TRACKING, FROZEN or LIMITED after the tests at its start: the law and
its stages in TRACKING and LIMITED, the away test in LIMITED, then the motion (R19, R79, R104). DEDUCED (log
16), unsafe: the turn that returns from LIMITED makes the end stop test. -/
def evaluatingTurn (u : LaneUpdate) (i : AxisIdx) (s : State) : State :=
  match (s.axis i).state with
  | .tracking => drivenTurn i (evaluateAxis u i s)
  | .limited =>
    let s₁ := evaluateAxis u i s
    if (s₁.axis i).isAway ∧ (s₁.axis i).remembered.isSome then
      drivenTurn i (s₁.onAxis i Axis.returnFromLimited)
    else standingTurn i s₁
  | .ready | .frozen => drivenTurn i s
  | .off | .homing | .faulted => s

/-- The work of axis `i`'s turn: the tests at its start (R105, R136), then its state's work (R79). -/
def turnBody (u : LaneUpdate) (i : AxisIdx) (s : State) : State :=
  match (s.axis i).state with
  | .off | .faulted => idleTurn i s
  | .homing => if (s.axis i).inputActive .drvFault then faultTurn i .drive s else homingTurn i s
  | .ready | .tracking | .frozen | .limited =>
    if (s.axis i).inputActive .drvFault then faultTurn i .drive s
    else if (s.axis i).followFails then faultTurn i .follow s
    else evaluatingTurn u i s

/-- The turn of axis `i` at a Lane Update: its work, and with it the stops taken before the turn are past
(R90). -/
def axisTurn (u : LaneUpdate) (i : AxisIdx) (s : State) : State :=
  (turnBody u i s).onAxis i (fun a => { a with stopTaken := false })

/-! ### The work in hand -/

/-- The work in hand replaced. -/
def State.setWork (w : Option UpdateWork) (s : State) : State := { s with work := w }

/-- What is left of a Lane Update's work: none once its turns are taken and its pass has ended. -/
def workLeft (u : LaneUpdate) (turns : List AxisIdx) (firing : Bool) : Option UpdateWork :=
  if turns = [] ∧ firing = false then none else some { update := u, turns, firing }

/-- The turn of axis `i`, the next of the work, with `rest` still to come (R19). -/
def turnStep (w : UpdateWork) (i : AxisIdx) (rest : List AxisIdx) (s : State) : State :=
  axisTurn w.update i (s.setWork (workLeft w.update rest w.firing))

/-- The next step of the firing pass: the head record fires if it is due, else the pass ends (R153). -/
def passStep (w : UpdateWork) (s : State) : State :=
  if cueDue w.update.showLane s then fireHead s
  else s.setWork (workLeft w.update w.turns false)

/-- One step of the Lane Update's work in hand: the Law Engine's next turn, or the next step of the firing
pass. Where both are still to come either may be next (R20, R153). -/
def workStep (s : State) : State :=
  match s.work with
  | none => s
  | some w =>
    match w.turns, w.firing with
    | [], false => s.setWork none
    | [], true => passStep w s
    | i :: rest, false => turnStep w i rest s
    | i :: rest, true =>
      if Config.passFirst s.draws then passStep w s.afterDraw else turnStep w i rest s.afterDraw

/-- `n` steps of the work in hand, or all of it. -/
def runWork : Nat → State → State
  | 0, s => s
  | n + 1, s => runWork n (workStep s)

/-- As many steps as the work in hand can still take: a turn each, a fired record each, and the ends. -/
def stepsLeft (s : State) : Nat :=
  match s.work with
  | none => 0
  | some w => w.turns.length + s.cues.records.length + 2

/-- The work in hand is done to its end. -/
def finishWork (s : State) : State := runWork (stepsLeft s) s

/-! ### The Lane Update -/

/-- The lanes settle, and a Sky lane that saturates raises SKY_LIMIT (R2, R6, R7, R10). -/
def settleLanes (s : State) : State :=
  let s₁ := s.setClock s.clock.settle.1
  if s.clock.saturates then s₁.raise .skyLimit else s₁

/-- The lanes are settled and the Lane Update is handed to the Law Engine and to the Cue Queue (R2, R19,
R153). -/
def beginUpdate (s : State) : State :=
  (settleLanes s).setWork
    (some { update := s.clock.settle.2, turns := allAxes, firing := true })

/-- LANE_UPDATE (R2): the work of the update before has ended (R19), the lanes are settled, and the work
begins. How much of it is done before the next waiting command is taken is free (R20, R158, R165; DESIGN
CHOICE, log 11, safe); the rest follows while no command waits. The Update Timer runs only with power and out
of reset. -/
def laneUpdate (s : State) : State :=
  if s.power = .on then
    let s₁ := beginUpdate (finishWork s)
    runWork (Config.stepsAtOnce s₁.draws) s₁.afterDraw
  else s

end Sys2Proof.Machine
end

