-- ==== Sys2Proof/Machine/ExecEvents.lean ====
section
/-! DEFINITION. The meanings of the event commands: line, memory and timer events. An event whose
conditions do not hold does not occur, and leaves the state as it is (log 9). -/

namespace Sys2Proof.Machine

/-- What a meaning answers. -/
abbrev Answer := Host.Outcome State Fault Refusal

/-- The unit has power and is out of reset: the only state in which its blocks run. -/
def whenOn (f : State → State) (s : State) : Answer := .next (if s.power = .on then f s else s)

/-- POWER_ON_RESET (R18, R59, R77, R149, R175). -/
def execPowerOnReset (straps : BitVec 5) (s : State) : Answer := .next (powerOnReset straps s)

/-- POWER_LOSS (R58, R77). -/
def execPowerLoss (s : State) : Answer := .next (powerLoss s)

/-- RESET_LINE_ASSERTED (R77, R149, R175). -/
def execResetLineAsserted (s : State) : Answer := .next (resetLineAsserted s)

/-- START_UP_SCAN_COMPLETION (R59, R149). -/
def execStartUpScanCompletion (s : State) : Answer := .next (startUpScanCompletion s)

/-- LANE_UPDATE (R2, R19, R20, R153). -/
def execLaneUpdate (s : State) : Answer := .next (laneUpdate s)

/-- SHOW_IN_CHARACTER (R161, R162). -/
def execShowInCharacter (c : LinkChar) (s : State) : Answer := .next (showInCharacter c s)

/-- FRAME_END (R164, R165). -/
def execFrameEnd (straps : BitVec 5) (s : State) : Answer := .next (frameEnd straps s)

/-- RETURN_IN_CHARACTER (R168, R169). -/
def execReturnInCharacter (c : LinkChar) (s : State) : Answer := .next (returnInCharacter c s)

/-- RETURN_IN_IDLE (R168). -/
def execReturnInIdle (s : State) : Answer := .next (returnInIdle s)

/-- GAP_END (R168). -/
def execGapEnd (s : State) : Answer := .next (gapEnd s)

/-- BUFFERED_CHARACTER_SENT (R168). -/
def execBufferedCharacterSent (s : State) : Answer := .next (bufferedCharacterSent s)

/-- OWN_REPLY_START (R170). -/
def execOwnReplyStart (s : State) : Answer := .next (ownReplyStart s)

/-- OWN_REPLY_END (R167, R174). -/
def execOwnReplyEnd (straps : BitVec 5) (s : State) : Answer := .next (ownReplyEnd straps s)

/-- The sample that completes an acceptance of the Hold line at `level`; a sample that completes none is
no such event (R15). -/
def execHoldLineAcceptance (level : Level) (s : State) : Answer :=
  whenOn (fun s =>
    if (s.clock.holdLine.sample s.clock.settings.holdWindow (Level.asserted level)).2 then
      sampleHold level s
    else s) s

/-- The sample that completes an acceptance of the Halt line at `level` (R15, R16). -/
def execHaltLineAcceptance (level : Level) (s : State) : Answer :=
  whenOn (fun s =>
    if (s.clock.haltLine.sample s.clock.settings.haltWindow (Level.asserted level)).2 then
      sampleHalt level s
    else s) s

/-- The sample that completes an acceptance of a switch input (R125, R126). -/
def acceptInput (i : AxisIdx) (k : InputKind) (level : Level) (s : State) : State :=
  if inputAccepts i k level s then sampleInput i k level s else s

/-- HOME_ACCEPTANCE (R114, R116, R117, R127). -/
def execHomeAcceptance (i : AxisIdx) (level : Level) (s : State) : Answer :=
  whenOn (acceptInput i .home level) s

/-- LIMIT_ACCEPTANCE (R103, R121, R127). -/
def execLimitAcceptance (i : AxisIdx) (stop : EndStop) (level : Level) (s : State) : Answer :=
  whenOn (acceptInput i (stopInput stop) level) s

/-- DRV_FAULT_ACCEPTANCE (R105, R107, R127). -/
def execDrvFaultAcceptance (i : AxisIdx) (level : Level) (s : State) : Answer :=
  whenOn (acceptInput i .drvFault level) s

/-- ENCODER_TRANSITION (R130 to R132): the encoder lines show a pair state. -/
def execEncoderTransition (i : AxisIdx) (encA encB : Level) (s : State) : Answer :=
  whenOn (fun s => s.onAxis i (Axis.seePair (encA, encB))) s

/-- INDEX_EVENT (R137, R138, R118): ENC_I shows a level. -/
def execIndexEvent (i : AxisIdx) (encI : Level) (s : State) : Answer := whenOn (seeIndex i encI) s

/-- KNOT_READ_GRANT (R50, R51): the grant that is due, if one is. The moments of R50 fall inside other
commands, which make the grant themselves (log 25). -/
def execKnotReadGrant (s : State) : Answer := whenOn grantRead s

/-- KNOT_READ_COMPLETION (R47, R50, R53). -/
def execKnotReadCompletion (s : State) : Answer := whenOn completeRead s

/-- SUSPEND_ACKNOWLEDGE (R72). -/
def execSuspendAcknowledge (s : State) : Answer := whenOn suspendAcknowledge s

/-- ERASE_COMPLETION (R69). -/
def execEraseCompletion (s : State) : Answer := whenOn eraseComplete s

/-- PROGRAM_COMPLETION, with the outcome the memory chose (R70). -/
def execProgramCompletion (verified : Bool) (s : State) : Answer := whenOn (programComplete verified) s

/-- ABORT_COMPLETION (R73). -/
def execAbortCompletion (s : State) : Answer := whenOn abortComplete s

/-- STEP_PULSE_BEGIN (R143). -/
def execStepPulseBegin (i : AxisIdx) (s : State) : Answer :=
  whenOn (fun s => s.onAxis i (fun a => { a with output := a.output.pulseBegin })) s

/-- STEP_PULSE_END (R143, R144, R146). -/
def execStepPulseEnd (i : AxisIdx) (s : State) : Answer :=
  whenOn (fun s => s.onAxis i (fun a => { a with output := a.output.pulseEnd a.motion.parkMode })) s

/-- A sample of one filtered line (R15, R125, R126). -/
def sampleLine (line : FilterLine) (level : Level) (s : State) : State :=
  match line with
  | .axisInput axis input => sampleInput axis input level s
  | .holdLine => sampleHold level s
  | .haltLine => sampleHalt level s

/-- FILTER_SAMPLE (R15, R125, R126). -/
def execFilterSample (line : FilterLine) (level : Level) (s : State) : Answer :=
  whenOn (sampleLine line level) s

end Sys2Proof.Machine
end

