-- ==== Sys2Proof/WellFormed.lean ====
section
/-! DEFINITION. Which command terms a link frame can carry. The other operands are of types that hold
only what their lines can show, so only the two list operands need a check. -/

namespace Sys2Proof

/-- The most payload bytes a cue's embedded request can have: 58 less the 10 bytes before it
(R161, R177). -/
def maxEmbedded : Nat := 48

/-- STAGE_KNOTS carries one, two or three knots (R65). -/
def knotCountOk (knots : List KnotField) : Bool :=
  1 ≤ knots.length && knots.length ≤ 3

/-- A request term that a frame of at most 58 payload bytes can carry. -/
def Request.wf : Request → Bool
  | .stageKnots _ knots => knotCountOk knots
  | .cue _ _ _ payload => payload.length ≤ maxEmbedded
  | _ => true

/-- A command term that the link or a line can produce. -/
def Instr.wf : Instr → Bool
  | .stageKnots _ _ knots => knotCountOk knots
  | .cue _ _ _ _ payload => payload.length ≤ maxEmbedded
  | .powerOnReset _ | .powerLoss | .startUpScanCompletion | .laneUpdate | .showInCharacter _
  | .frameEnd _ | .run _ | .sync _ | .hold _ | .release _ | .skySet _ _ | .showSet _ _
  | .skyRate _ _ _ | .unitSettings _ _ _ _ _ | .unitReset _ _ | .axisMotionConfig _ _ _
  | .axisSenseConfig _ _ _ | .axisLaw _ _ _ _ | .enable _ _ | .disable _ _ | .home _ _
  | .track _ _ | .stop _ _ | .move _ _ _ _ | .flush _ _ | .faultAck _ _ | .cueCancel _ _
  | .stageHeader _ _ _ _ _ | .stageClear _ | .commit _ _ _ | .abortRewrite _
  | .statusQuery _ _ _ | .axisQuery _ _ _ _ | .tableQuery _ _ _ | .segmentQuery _ _
  | .clear _ _ | .returnInCharacter _ | .returnInIdle | .gapEnd | .bufferedCharacterSent
  | .ownReplyStart | .ownReplyEnd _ | .holdLineAcceptance _ | .haltLineAcceptance _
  | .homeAcceptance _ _ | .limitAcceptance _ _ _ | .drvFaultAcceptance _ _
  | .encoderTransition _ _ _ | .indexEvent _ _ | .knotReadGrant | .knotReadCompletion
  | .suspendAcknowledge | .eraseCompletion | .programCompletion _ | .abortCompletion
  | .stepPulseBegin _ | .stepPulseEnd _ | .filterSample _ _ | .resetLineAsserted => true

end Sys2Proof
end

