-- ==== Sys2Proof/Machine/ExecRequests.lean ====
section
/-! DEFINITION. The meanings of the request commands: the arrival of a good frame of that kind (R165).
Each hands the request to `arrive`, which makes the tests of R165 and gives it to its owner. -/

namespace Sys2Proof.Machine

/-- RUN (R4). -/
def execRun (o : Origin) (s : State) : Host.Outcome State Fault Refusal :=
  .next (arrive o .run s)

/-- SYNC (R3). -/
def execSync (o : Origin) (s : State) : Host.Outcome State Fault Refusal :=
  .next (arrive o .sync s)

/-- HOLD (R14). -/
def execHold (o : Origin) (s : State) : Host.Outcome State Fault Refusal :=
  .next (arrive o (.cueable .hold) s)

/-- RELEASE (R14). -/
def execRelease (o : Origin) (s : State) : Host.Outcome State Fault Refusal :=
  .next (arrive o (.cueable .release) s)

/-- SKY_SET (R9). -/
def execSkySet (o : Origin) (value : BitVec 64) (s : State) : Host.Outcome State Fault Refusal :=
  .next (arrive o (.cueable (.skySet value)) s)

/-- SHOW_SET (R9). -/
def execShowSet (o : Origin) (value : BitVec 64) (s : State) : Host.Outcome State Fault Refusal :=
  .next (arrive o (.cueable (.showSet value)) s)

/-- SKY_RATE (R11). -/
def execSkyRate (o : Origin) (endRate : BitVec 64) (length : BitVec 16) (s : State) :
    Host.Outcome State Fault Refusal :=
  .next (arrive o (.cueable (.skyRate endRate length)) s)

/-- UNIT_SETTINGS (R17). -/
def execUnitSettings (o : Origin) (suspendPolicy haltsOnHold holdWindow haltWindow : Byte)
    (s : State) : Host.Outcome State Fault Refusal :=
  .next (arrive o (.unitSettings suspendPolicy haltsOnHold holdWindow haltWindow) s)

/-- UNIT_RESET (R174). -/
def execUnitReset (o : Origin) (straps : BitVec 5) (s : State) : Host.Outcome State Fault Refusal :=
  .next (arrive o (.unitReset straps) s)

/-- AXIS_MOTION_CONFIG (R94). -/
def execAxisMotionConfig (o : Origin) (axis : Byte) (fields : MotionFields) (s : State) :
    Host.Outcome State Fault Refusal :=
  .next (arrive o (.axisMotionConfig axis fields) s)

/-- AXIS_SENSE_CONFIG (R113). -/
def execAxisSenseConfig (o : Origin) (axis : Byte) (fields : SenseFields) (s : State) :
    Host.Outcome State Fault Refusal :=
  .next (arrive o (.axisSenseConfig axis fields) s)

/-- AXIS_LAW (R21, R22). -/
def execAxisLaw (o : Origin) (axis kind : Byte) (body : LawBody) (s : State) :
    Host.Outcome State Fault Refusal :=
  .next (arrive o (.cueable (.axisLaw axis kind body)) s)

/-- ENABLE (R96, R97). -/
def execEnable (o : Origin) (axis : Byte) (s : State) : Host.Outcome State Fault Refusal :=
  .next (arrive o (.cueable (.enable axis)) s)

/-- DISABLE (R101). -/
def execDisable (o : Origin) (axis : Byte) (s : State) : Host.Outcome State Fault Refusal :=
  .next (arrive o (.cueable (.disable axis)) s)

/-- HOME (R100, R114). -/
def execHome (o : Origin) (axis : Byte) (s : State) : Host.Outcome State Fault Refusal :=
  .next (arrive o (.home axis) s)

/-- TRACK (R98). -/
def execTrack (o : Origin) (axis : Byte) (s : State) : Host.Outcome State Fault Refusal :=
  .next (arrive o (.cueable (.track axis)) s)

/-- STOP (R99). -/
def execStop (o : Origin) (axis : Byte) (s : State) : Host.Outcome State Fault Refusal :=
  .next (arrive o (.cueable (.stop axis)) s)

/-- MOVE (R27). -/
def execMove (o : Origin) (axis : Byte) (endPosition arrival : BitVec 64) (s : State) :
    Host.Outcome State Fault Refusal :=
  .next (arrive o (.cueable (.move axis endPosition arrival)) s)

/-- FLUSH (R32). -/
def execFlush (o : Origin) (axis : Byte) (s : State) : Host.Outcome State Fault Refusal :=
  .next (arrive o (.cueable (.flush axis)) s)

/-- FAULT_ACK (R108). -/
def execFaultAck (o : Origin) (axis : Byte) (s : State) : Host.Outcome State Fault Refusal :=
  .next (arrive o (.faultAck axis) s)

/-- CUE (R151). -/
def execCue (o : Origin) (time : BitVec 64) (tag kind : Byte) (payload : List Byte) (s : State) :
    Host.Outcome State Fault Refusal :=
  .next (arrive o (.cue time tag kind payload) s)

/-- CUE_CANCEL (R157). -/
def execCueCancel (o : Origin) (tag : Byte) (s : State) : Host.Outcome State Fault Refusal :=
  .next (arrive o (.cueCancel tag) s)

/-- STAGE_HEADER (R64). -/
def execStageHeader (o : Origin) (table sequence count final : Byte) (s : State) :
    Host.Outcome State Fault Refusal :=
  .next (arrive o (.stageHeader table sequence count final) s)

/-- STAGE_KNOTS (R65). A payload without one to three whole knots has not the kind's size (R165). -/
def execStageKnots (o : Origin) (first : Byte) (knots : List KnotField) (s : State) :
    Host.Outcome State Fault Refusal :=
  .next (takeRequest o 0x29 (if knotCountOk knots then some (.stageKnots first knots) else none) s)

/-- STAGE_CLEAR (R66). -/
def execStageClear (o : Origin) (s : State) : Host.Outcome State Fault Refusal :=
  .next (arrive o .stageClear s)

/-- COMMIT (R67, R68). -/
def execCommit (o : Origin) (segment : BitVec 16) (eraseOnly : Byte) (s : State) :
    Host.Outcome State Fault Refusal :=
  .next (arrive o (.commit segment eraseOnly) s)

/-- ABORT_REWRITE (R73). -/
def execAbortRewrite (o : Origin) (s : State) : Host.Outcome State Fault Refusal :=
  .next (arrive o .abortRewrite s)

/-- STATUS_QUERY (R173, R178). -/
def execStatusQuery (o : Origin) (page part : Byte) (s : State) :
    Host.Outcome State Fault Refusal :=
  .next (arrive o (.statusQuery page part) s)

/-- AXIS_QUERY (R173, R178). -/
def execAxisQuery (o : Origin) (axis page part : Byte) (s : State) :
    Host.Outcome State Fault Refusal :=
  .next (arrive o (.axisQuery axis page part) s)

/-- TABLE_QUERY (R63, R178). -/
def execTableQuery (o : Origin) (table part : Byte) (s : State) :
    Host.Outcome State Fault Refusal :=
  .next (arrive o (.tableQuery table part) s)

/-- SEGMENT_QUERY (R60). -/
def execSegmentQuery (o : Origin) (segment : BitVec 16) (s : State) :
    Host.Outcome State Fault Refusal :=
  .next (arrive o (.segmentQuery segment) s)

/-- CLEAR (R172). -/
def execClear (o : Origin) (fields : ClearFields) (s : State) : Host.Outcome State Fault Refusal :=
  .next (arrive o (.clear fields) s)

end Sys2Proof.Machine
end

