-- ==== Sys2Proof/Machine/Dispatch.lean ====
section
/-! DEFINITION. The effect of a command on everything but the queue: one arm for each constructor. -/

namespace Sys2Proof.Machine

def exec (i : Instr) (s : State) : Host.Outcome State Fault Refusal :=
  match i with
  | .powerOnReset straps => Sys2Proof.Machine.execPowerOnReset straps s
  | .powerLoss => Sys2Proof.Machine.execPowerLoss s
  | .startUpScanCompletion => Sys2Proof.Machine.execStartUpScanCompletion s
  | .laneUpdate => Sys2Proof.Machine.execLaneUpdate s
  | .showInCharacter c => Sys2Proof.Machine.execShowInCharacter c s
  | .frameEnd straps => Sys2Proof.Machine.execFrameEnd straps s
  | .run o => Sys2Proof.Machine.execRun o s
  | .sync o => Sys2Proof.Machine.execSync o s
  | .hold o => Sys2Proof.Machine.execHold o s
  | .release o => Sys2Proof.Machine.execRelease o s
  | .skySet o value => Sys2Proof.Machine.execSkySet o value s
  | .showSet o value => Sys2Proof.Machine.execShowSet o value s
  | .skyRate o endRate length => Sys2Proof.Machine.execSkyRate o endRate length s
  | .unitSettings o suspendPolicy haltsOnHold holdWindow haltWindow => Sys2Proof.Machine.execUnitSettings o suspendPolicy haltsOnHold holdWindow haltWindow s
  | .unitReset o straps => Sys2Proof.Machine.execUnitReset o straps s
  | .axisMotionConfig o axis fields => Sys2Proof.Machine.execAxisMotionConfig o axis fields s
  | .axisSenseConfig o axis fields => Sys2Proof.Machine.execAxisSenseConfig o axis fields s
  | .axisLaw o axis kind body => Sys2Proof.Machine.execAxisLaw o axis kind body s
  | .enable o axis => Sys2Proof.Machine.execEnable o axis s
  | .disable o axis => Sys2Proof.Machine.execDisable o axis s
  | .home o axis => Sys2Proof.Machine.execHome o axis s
  | .track o axis => Sys2Proof.Machine.execTrack o axis s
  | .stop o axis => Sys2Proof.Machine.execStop o axis s
  | .move o axis endPosition arrival => Sys2Proof.Machine.execMove o axis endPosition arrival s
  | .flush o axis => Sys2Proof.Machine.execFlush o axis s
  | .faultAck o axis => Sys2Proof.Machine.execFaultAck o axis s
  | .cue o time tag kind payload => Sys2Proof.Machine.execCue o time tag kind payload s
  | .cueCancel o tag => Sys2Proof.Machine.execCueCancel o tag s
  | .stageHeader o table sequence count final => Sys2Proof.Machine.execStageHeader o table sequence count final s
  | .stageKnots o first knots => Sys2Proof.Machine.execStageKnots o first knots s
  | .stageClear o => Sys2Proof.Machine.execStageClear o s
  | .commit o segment eraseOnly => Sys2Proof.Machine.execCommit o segment eraseOnly s
  | .abortRewrite o => Sys2Proof.Machine.execAbortRewrite o s
  | .statusQuery o page part => Sys2Proof.Machine.execStatusQuery o page part s
  | .axisQuery o axis page part => Sys2Proof.Machine.execAxisQuery o axis page part s
  | .tableQuery o table part => Sys2Proof.Machine.execTableQuery o table part s
  | .segmentQuery o segment => Sys2Proof.Machine.execSegmentQuery o segment s
  | .clear o fields => Sys2Proof.Machine.execClear o fields s
  | .returnInCharacter c => Sys2Proof.Machine.execReturnInCharacter c s
  | .returnInIdle => Sys2Proof.Machine.execReturnInIdle s
  | .gapEnd => Sys2Proof.Machine.execGapEnd s
  | .bufferedCharacterSent => Sys2Proof.Machine.execBufferedCharacterSent s
  | .ownReplyStart => Sys2Proof.Machine.execOwnReplyStart s
  | .ownReplyEnd straps => Sys2Proof.Machine.execOwnReplyEnd straps s
  | .holdLineAcceptance level => Sys2Proof.Machine.execHoldLineAcceptance level s
  | .haltLineAcceptance level => Sys2Proof.Machine.execHaltLineAcceptance level s
  | .homeAcceptance axis level => Sys2Proof.Machine.execHomeAcceptance axis level s
  | .limitAcceptance axis stop level => Sys2Proof.Machine.execLimitAcceptance axis stop level s
  | .drvFaultAcceptance axis level => Sys2Proof.Machine.execDrvFaultAcceptance axis level s
  | .encoderTransition axis encA encB => Sys2Proof.Machine.execEncoderTransition axis encA encB s
  | .indexEvent axis encI => Sys2Proof.Machine.execIndexEvent axis encI s
  | .knotReadGrant => Sys2Proof.Machine.execKnotReadGrant s
  | .knotReadCompletion => Sys2Proof.Machine.execKnotReadCompletion s
  | .suspendAcknowledge => Sys2Proof.Machine.execSuspendAcknowledge s
  | .eraseCompletion => Sys2Proof.Machine.execEraseCompletion s
  | .programCompletion verified => Sys2Proof.Machine.execProgramCompletion verified s
  | .abortCompletion => Sys2Proof.Machine.execAbortCompletion s
  | .stepPulseBegin axis => Sys2Proof.Machine.execStepPulseBegin axis s
  | .stepPulseEnd axis => Sys2Proof.Machine.execStepPulseEnd axis s
  | .filterSample line level => Sys2Proof.Machine.execFilterSample line level s
  | .resetLineAsserted => Sys2Proof.Machine.execResetLineAsserted s

end Sys2Proof.Machine
end

