-- ==== Sys2Proof/Safety.lean ====
section
/-! DEFINITION. The terms the statements use: when a request is carried out, what answers it, and the
invariants that keep the laws of the device (R1). -/

namespace Sys2Proof.Machine

/-! ### Requests -/

/-- A request of origin `o` reaches its owner: power, no reset held or pending, start-up complete, and
for an addressed one an own address it can carry and room for its reply (R165, R167, R174, R175). -/
def Takes (o : Origin) (s : State) : Prop :=
  s.power = .on ∧ s.link.resetPending = false ∧ s.memory.startUp = .complete ∧
    (o = .addressed → s.link.addressable = true ∧ s.link.replies.length < replyCapacity)

/-- The state after a request of origin `o` whose owner gave `r`: an addressed one leaves its reply at
the tail of the Reply Queue, a broadcast one leaves none (R165, R167). -/
def answered (o : Origin) (kind : Byte) (r : Result) : State :=
  match o with
  | .addressed => placeReply kind r
  | .broadcast => r.state

/-- The axis an index byte names. -/
def Names (axis : Byte) (i : AxisIdx) : Prop := axis.toNat = i.val

/-- The command that is the arrival of a request. -/
def requestCommand (o : Origin) : Request → Instr
  | .cueable (.skySet value) => .skySet o value
  | .cueable (.showSet value) => .showSet o value
  | .cueable (.skyRate endRate length) => .skyRate o endRate length
  | .cueable .hold => .hold o
  | .cueable .release => .release o
  | .cueable (.axisLaw axis kind body) => .axisLaw o axis kind body
  | .cueable (.enable axis) => .enable o axis
  | .cueable (.disable axis) => .disable o axis
  | .cueable (.track axis) => .track o axis
  | .cueable (.stop axis) => .stop o axis
  | .cueable (.move axis endPosition arrival) => .move o axis endPosition arrival
  | .cueable (.flush axis) => .flush o axis
  | .run => .run o
  | .sync => .sync o
  | .unitSettings policy halts holdWindow haltWindow => .unitSettings o policy halts holdWindow haltWindow
  | .unitReset straps => .unitReset o straps
  | .axisMotionConfig axis f => .axisMotionConfig o axis f
  | .axisSenseConfig axis f => .axisSenseConfig o axis f
  | .home axis => .home o axis
  | .faultAck axis => .faultAck o axis
  | .cue time tag kind payload => .cue o time tag kind payload
  | .cueCancel tag => .cueCancel o tag
  | .stageHeader table sequence count final => .stageHeader o table sequence count final
  | .stageKnots first knots => .stageKnots o first knots
  | .stageClear => .stageClear o
  | .commit segment eraseOnly => .commit o segment eraseOnly
  | .abortRewrite => .abortRewrite o
  | .statusQuery page part => .statusQuery o page part
  | .axisQuery axis page part => .axisQuery o axis page part
  | .tableQuery table part => .tableQuery o table part
  | .segmentQuery segment => .segmentQuery o segment
  | .clear f => .clear o f

/-! ### Filters -/

/-- A sample of `level` brings the run count to the window + 1 (R125, R126). -/
def Completes (window : Nat) (level : Level) (f : Filter) : Prop :=
  match f.accepted with
  | some now => level ≠ now ∧ window ≤ f.runCount
  | none => window ≤ if f.runCount = 0 ∨ level ≠ f.runLevel then 0 else f.runCount

/-- The filter after such a sample: the level accepted, the run count 0 (R125, R126). -/
def Filter.accept (level : Level) (f : Filter) : Filter :=
  { accepted := some level, runLevel := if f.accepted = none then level else f.runLevel, runCount := 0 }

/-- A sample of `level` on input `k` is handed on as an acceptance: a change, or a settling on the active
level (R125, R126). -/
def Axis.accepts (k : InputKind) (level : Level) (a : Axis) : Prop :=
  Completes (a.sense.windows.get k) level (a.filters.get k) ∧
    ((a.filters.get k).accepted ≠ none ∨ level = a.sense.activeLevels.get k)

/-- The axis with that level accepted on input `k`. -/
def Axis.accept (k : InputKind) (level : Level) (a : Axis) : Axis :=
  { a with filters := a.filters.put k ((a.filters.get k).accept level) }

/-- A sample of a line at `level` completes a change of the Hold or Halt filter (R15). -/
def LineFilter.completes (window : Nat) (level : Level) (f : LineFilter) : Prop :=
  Level.asserted level ≠ f.active ∧ window ≤ f.runCount

/-! ### Bytes of a reply (spec/12, Field encoding) -/

/-- A number in `n` bytes, most significant first, a negative one in two's complement. -/
def beBytes (n : Nat) (x : Int) : List Byte :=
  (List.range n).reverse.map (fun k => BitVec.ofInt 8 (x / 256 ^ k))

/-- The place of a code in its list, numbered from 0. -/
def codeIn {α : Type} [DecidableEq α] (codes : List α) (x : α) : Byte := BitVec.ofNat 8 (codes.idxOf x)

/-- The value of a byte of flags, bit 0 first. -/
def bitsByte : List Bool → Nat
  | [] => 0
  | b :: rest => b.toNat + 2 * bitsByte rest

/-- An optional eight-byte value: the presence byte, then the value or zeros. -/
def maybe64 : Option Int → List Byte
  | none => List.replicate 9 0
  | some x => 1 :: beBytes 8 x

/-- The size table of spec/12: whether a payload of `n` bytes has a size of its kind. -/
def sizeOf (kind n : Nat) : Bool :=
  if [0x01, 0x02, 0x03, 0x04, 0x09, 0x2A, 0x2C].contains kind then n == 0
  else if [0x05, 0x07].contains kind then n == 8
  else if kind == 0x06 then n == 10
  else if [0x08, 0x28].contains kind then n == 4
  else if [0x10, 0x11].contains kind then n == 35
  else if kind == 0x12 then [2, 11, 19, 26].contains n
  else if [0x13, 0x14, 0x15, 0x16, 0x17, 0x19, 0x1A, 0x21].contains kind then n == 1
  else if kind == 0x18 then n == 17
  else if kind == 0x20 then 10 ≤ n
  else if kind == 0x29 then [17, 33, 49].contains n
  else if [0x2B, 0x31].contains kind then n == 3
  else if [0x30, 0x32, 0x33].contains kind then n == 2
  else kind == 0x38 && n == 10

/-! ### Segments in a rewrite -/

/-- `y` holds no more than `x`: every part of it is gone or stands as in `x`, and the completion marker
stands only over a header with all its knots (R58). -/
def SegmentImage.Within (y x : SegmentImage) : Prop :=
  (y.header = none ∨ y.header = x.header) ∧
    (∀ k, sparseGet k y.slots = none ∨ sparseGet k y.slots = sparseGet k x.slots) ∧
    (y.marker = true → x.marker = true ∧ imageComplete y.header y.slots = true)

/-- `y` is `x` with a first part of the staged image written to it: the knots in slot order, then the header,
then the completion marker (R58, R70). -/
def SegmentImage.WrittenFrom (y x : SegmentImage) (g : Staging) : Prop :=
  ∀ h, g.header = some h → ∃ n : Nat,
    (∀ k, sparseGet k y.slots =
      if k < h.count ∧ (k < n ∨ sparseGet k x.slots ≠ none) then sparseGet k g.slots else none) ∧
    y.header = (if h.count < n then some h else x.header) ∧
    (y.marker = true →
      (x.marker = true ∨ h.count + 1 < n) ∧ imageComplete y.header y.slots = true)

/-- What the segment of a rewrite holds where the rewrite is stopped: a part of its erase done, a part of its
program phase written, or, once its phase has stopped, what it held. The open mark stands (R58, R72, R73,
R77). -/
def StoppedImage (s : State) (r : Rewrite) (y : SegmentImage) : Prop :=
  y.openMark = true ∧
    (s.memory.engine = .erasing → y.Within (s.memory.image r.segment)) ∧
    (s.memory.engine = .programming →
      y.WrittenFrom (s.memory.image r.segment) s.memory.staging) ∧
    (s.memory.engine ≠ .erasing → s.memory.engine ≠ .programming →
      y = { s.memory.image r.segment with openMark := true })

/-- Segment `k` is VALID, carries table `id`, and has this header and these end knots. -/
def Carries (records : Sparse SegmentRecord) (id : TableId) (k : Nat) (h : Header)
    (first last : Knot) : Prop :=
  sparseGet k records = some (.valid h first last) ∧ h.table = id

/-! ### Law by law -/

/-- The signed 64-bit range. -/
def InInt64 (x : Int) : Prop := minInt64 ≤ x ∧ x ≤ maxInt64

/-- Laws 1 to 3 of the device on one axis, with the ranges that keep them: Lp within −B to 0, |v| within
Vmax, a window of 1 to 500 steps, v of 0 in OFF and FAULTED and from a stop to the next turn (R90), a homing
speed within Vmax. -/
def Axis.motionSound (a : Axis) : Prop :=
  1 ≤ a.motion.vmax ∧ a.motion.vmax ≤ 500 ∧ 1 ≤ a.motion.amax ∧ a.motion.amax ≤ 250 ∧
    -(a.motion.backlash : Int) ≤ a.lp ∧ a.lp ≤ 0 ∧ a.v.natAbs ≤ a.motion.vmax ∧ InInt64 a.c ∧
    (a.state = .off ∨ a.state = .faulted ∨ a.stopTaken = true → a.v = 0) ∧
    (a.state = .homing → a.homing.speed ≤ a.motion.vmax) ∧
    (∀ w, a.output.window = some w → 1 ≤ w.count ∧ w.count ≤ 500 ∧ w.begun ≤ w.count)

/-- Law 4 on one axis: while a BOUNDED axis is homed, M lies within its soft limits. Outside OFF, and
while homed, the soft limits are in order (R96). -/
def Axis.clampSound (a : Axis) : Prop :=
  (a.state ≠ .off ∨ a.homed = true → a.motion.softMin < a.motion.softMax) ∧
    (a.motion.kind = .bounded → a.homed = true → a.motion.softMin ≤ a.m ∧ a.m ≤ a.motion.softMax)

/-- The wrap base of a BOUNDED axis is 0, and every wrap base is a multiple of a revolution (R33). -/
def Axis.wrapSound (a : Axis) : Prop :=
  (a.motion.kind = .bounded → a.w = 0) ∧ revolution ∣ a.w

/-- Law 5: at most 8 moves. -/
def Axis.movesSound (a : Axis) : Prop := a.moves.length ≤ 8

/-- Every axis is sound in `P`. -/
def EveryAxis (P : Axis → Prop) (s : State) : Prop := ∀ i : AxisIdx, P (s.axis i)

/-- Law 6: at most 32 records, in order of activation time. -/
def CueQueueSound (s : State) : Prop :=
  s.cues.records.length ≤ cueCapacity ∧
    s.cues.records.Pairwise (fun c d => c.time ≤ d.time)

/-- Law 7: the source of a COUPLED law lies below its axis. -/
def CouplingSound (s : State) : Prop :=
  ∀ i source numerator denominator phase,
    (s.axis i).law = .coupled source numerator denominator phase → source < i

/-- The axis's read is granted and in progress. -/
def Axis.atPort (a : Axis) : Prop := a.fetchState = .granted ∨ a.fetchState = .discarding

/-- Law 9: an axis has a read in progress exactly when the port reads for it, and a pending or granted
read always belongs to a fetch. -/
def ReadsSound (s : State) : Prop :=
  (∀ i, (s.axis i).atPort ↔ ∃ r, s.port.reading = some r ∧ r.axis = i) ∧
    ∀ i, (s.axis i).fetchState = .waiting ∨ (s.axis i).fetchState = .granted →
      (s.axis i).fetch ≠ none

/-- The bound-axis sets are those of the laws (R62). -/
def BoundSound (s : State) : Prop :=
  ∀ id i, inSet (s.entry id).bound i = true ↔ (s.axis i).law.tableId = some id

/-- An entry that no rewrite concerns is the one its segment records build (R61). -/
def DirectorySound (s : State) : Prop :=
  ∀ id, s.memory.concerns id = false →
    s.entry id = buildEntry id s.memory.records (s.entry id).bound

/-- The rewrite record is there exactly while the engine is not IDLE; its segment is BUSY, and its new id
is the staged one (R57, R68, R71). -/
def RewriteSound (s : State) : Prop :=
  (s.memory.engine = .idle ↔ s.memory.rewrite = none) ∧
    ∀ r, s.memory.rewrite = some r →
      s.memory.record r.segment = .busy ∧ r.newTable = s.memory.staging.header.map Header.table

/-- Until the start-up scan is complete the clock is STOPPED, no cue waits, every axis is OFF and no
rewrite is in hand (R2, R77, R165). -/
def ScanningSound (s : State) : Prop :=
  s.memory.startUp = .scanning →
    s.clock.state = .stopped ∧ s.cues.records = [] ∧ (∀ i, (s.axis i).state = .off) ∧
      s.memory.engine = .idle

/-- A table named by the law of an axis outside OFF is usable (R21, R67). -/
def TablesInUseSound (s : State) : Prop :=
  ∀ i id, (s.axis i).state ≠ .off → (s.axis i).law.tableId = some id → s.memory.usable id = true

/-- Table Memory is in its one canonical form, and a rewrite in hand names one of the 256 segments (R57,
R67). -/
def MemorySound (s : State) : Prop :=
  s.memory.wf = true ∧ ∀ r, s.memory.rewrite = some r → r.segment < 256

/-- A completion marker stands only over a header with all its knots, and the image being programmed was
checked to be whole (R58, R67). -/
def MarkerSound (s : State) : Prop :=
  (∀ k, (s.memory.image k).marker = true →
    imageComplete (s.memory.image k).header (s.memory.image k).slots = true) ∧
  ∀ r, s.memory.rewrite = some r →
    (s.memory.engine ≠ .idle ∧ r.eraseOnly = false) ∨ s.memory.engine = .programming ∨
      s.memory.engine = .programSuspended →
    s.memory.staging.filled = true

/-- The work in hand has turns or its firing pass to come, its turns are the last of the sixteen in ascending
order, and the lanes stand as its update settled them (R2, R19, R20). -/
def WorkSound (s : State) : Prop :=
  ∀ w, s.work = some w →
    (w.turns ≠ [] ∨ w.firing = true) ∧ (∃ n, w.turns = allAxes.drop n) ∧
      w.update.skyLane = s.clock.skyLane ∧ w.update.showLane = s.clock.showLane

/-- No grant stays due: a read that waits finds the port reading or the engine holding reads up. Until the
start-up scan is complete no fetch has a read (R50, R56). -/
def GrantsSound (s : State) : Prop :=
  (∀ i r, s.askedRead i = some r → s.port.reading ≠ none ∨ s.memory.engine.grants = false) ∧
  (s.memory.startUp = .scanning → ∀ i, (s.axis i).fetchState = .idle)

/-- Law 8 with what keeps it: the Directory is true to the records, the bound-axis sets to the laws, and
every table in use is COMPLETE and outside every rewrite. -/
def TablesSound (s : State) : Prop :=
  MemorySound s ∧ BoundSound s ∧ DirectorySound s ∧ RewriteSound s ∧ ScanningSound s ∧
    TablesInUseSound s

/-- The bounds of the Link Port's queues and counts, and its own reply in progress (R161, R167 to
R170). -/
def LinkSound (s : State) : Prop :=
  s.link.replies.length ≤ replyCapacity ∧ s.link.buffered ≤ returnCapacity ∧
    (∀ f, s.link.frame = some f → f.chars.length ≤ maxFrame) ∧
    (s.link.sending = true ↔ s.link.relay = .ownReply) ∧
    (s.link.sending = true → s.link.replies ≠ []) ∧
    s.link.framingErrors ≤ 65535 ∧ s.link.checkErrors ≤ 65535 ∧ s.link.requestOverruns ≤ 65535 ∧
    s.link.returnOverruns ≤ 65535

/-- A property that a step keeps: it holds after every step from a state that has it. -/
def KeptByStep (P : State → Prop) : Prop := ∀ s t, P s → step s = .next t → P t

end Sys2Proof.Machine
end

