-- ==== Sys2Proof/Certificates/Slice0/Obligations.lean ====
section
/-! DEFINITION. The statements about the model, for the provers. -/

section

open Sys2Proof Sys2Proof.Machine

/-! ### The machine -/

/-- A step runs the command at the front of the queue with the queue's rest (the task's form of a block's
step). On an empty queue it takes one step of the Lane Update's work in hand, and idles where none is: both
are the model's choice (log 8, log 11). -/
def Obligations.StepRunsFrontCommand : Prop :=
  (∀ (c : Instr) (rest : List Instr) (s : State),
    step { s with pending := c :: rest } = exec c { s with pending := rest }) ∧
  (∀ s : State, s.pending = [] → step s = .next (workStep s)) ∧
  ∀ s : State, s.pending = [] → s.work = none → step s = .next s

/-- Every command goes on, in every state, and leaves the waiting commands alone. -/
def Obligations.CommandsGoOnAndKeepTheQueue : Prop :=
  ∀ (c : Instr) (s : State), ∃ t, exec c s = .next t ∧ t.pending = s.pending

/-! ### Resets -/

/-- R18, R40, R56, R92, R112, R129, R142, R149, R160, R163, R175: the values after a power-on reset. The
run level of a filter is left out: its value is the model's choice (log 2). -/
def Obligations.PowerOnResetBringsResetValues : Prop :=
  ∀ (straps : BitVec 5) (s : State), ∃ t, exec (.powerOnReset straps) s = .next t ∧
    t.power = .on ∧
    t.clock =
      { state := .stopped, skyLane := 0, showLane := 0, rate := 1000, ramp := none
        pendingSky := none, pendingShow := none, skyLimit := false, softHold := false
        holdLine := { active := false, runCount := 0 }
        haltLine := { active := false, runCount := 0 }
        settings :=
          { policy := .serve, showHaltsOnHold := false, holdWindow := 4, haltWindow := 4 } } ∧
    (∀ i, (t.axis i).motion =
        { kind := .wrapping, steps := 51200, lane := .sky, vmax := 100, amax := 10, backlash := 0
          softMin := -1000000, softMax := 1000000, lagLimit := 0, holdResponse := .freeze
          parkMode := .brake } ∧
      (t.axis i).sense =
        { encoderMode := .none, invert := false, counts := 4096, followLimit := 0, homeMode := .none
          homeDirection := .positive, homeSpeed := 10, travelLimit := 2000000, homeOffset := 0
          activeLevels := { home := .low, limPos := .low, limNeg := .low, drvFault := .low }
          windows := { home := 4, limPos := 4, limNeg := 4, drvFault := 4 } } ∧
      (t.axis i).law = .none ∧ (t.axis i).p = 0 ∧ (t.axis i).w = 0 ∧ (t.axis i).m = 0 ∧
      (t.axis i).rebaseDue = false ∧ (t.axis i).moves = [] ∧ (t.axis i).headStart = none ∧
      (t.axis i).offTable = false ∧ (t.axis i).stale = false ∧ (t.axis i).late = false ∧
      (t.axis i).clamped = false ∧ (t.axis i).bracket = .none ∧ (t.axis i).wanted = 0 ∧
      (t.axis i).fetch = none ∧ (t.axis i).fetchState = .idle ∧ (t.axis i).c = 0 ∧
      (t.axis i).v = 0 ∧ (t.axis i).lp = 0 ∧ (t.axis i).lastDir = .positive ∧
      (t.axis i).lag = false ∧ (t.axis i).state = .off ∧ (t.axis i).remembered = none ∧
      (t.axis i).activeLimit = none ∧ (t.axis i).stopTaken = false ∧
      (t.axis i).homed = false ∧ (t.axis i).sourceHeld = false ∧
      (t.axis i).fault = { cause := .none, time := 0, stateAt := .ready, further := 0 } ∧
      (t.axis i).homing =
        { phase := .none, paused := false, speed := 0, start := 0, switchPoint := none
          reference := none, lastEnd := none, distance := none } ∧
      (∀ k, ((t.axis i).filters.get k).accepted = none ∧ ((t.axis i).filters.get k).runCount = 0) ∧
      (t.axis i).encoder =
        { pair := none, count := 0, offset := 0, glitches := 0, index := none
          capture := { current := none, previous := none, pending := false, missed := 0 } } ∧
      (t.axis i).output =
        { window := none, step := false, dir := .positive, mode := .startUp, parkPending := false
          enable := false, brake := true }) ∧
    t.work = none ∧ t.cues = { records := [], lastFailure := none, failures := 0 } ∧
    t.port = { reading := none, lastServed := 15, suspendRequest := false } ∧
    t.link.ownAddress = straps ∧ t.link.frame = none ∧ t.link.replies = [] ∧
    t.link.sending = false ∧ t.link.returnBuffer = [] ∧ t.link.relay = .direct ∧
    t.link.framingErrors = 0 ∧ t.link.checkErrors = 0 ∧ t.link.requestOverruns = 0 ∧
    t.link.returnOverruns = 0 ∧ t.link.attention = Attention.empty ∧
    t.link.resetPending = false ∧ t.attentionLine = false

/-- R58, R77, R149: a power-on reset, a loss of power and the Reset line cut off a rewrite with its open
mark set, and its segment then holds what the memory held: a part of the erase done, or a first part of the
staged image written (how much is free, log 4). They keep every other segment, and bring Table Memory to
SCANNING with the rest of its values at reset; the outputs take their START-UP levels (after a loss of power
the model's choice, log 7). -/
def Obligations.ResetsCutOffARewrite : Prop :=
  ∀ (c : Instr) (s : State),
    (∃ straps, c = .powerOnReset straps) ∨
      (s.power ≠ .off ∧ (c = .powerLoss ∨ c = .resetLineAsserted)) →
    ∃ t, exec c s = .next t ∧
      (c = .powerLoss → t.power = .off) ∧ (c = .resetLineAsserted → t.power = .inReset) ∧
      (∀ r, s.memory.engine ≠ .idle → s.memory.rewrite = some r →
        StoppedImage s r (t.memory.image r.segment)) ∧
      (∀ k, (∀ r, s.memory.engine ≠ .idle → s.memory.rewrite = some r → k ≠ r.segment) →
        t.memory.image k = s.memory.image k) ∧
      t.memory.startUp = .scanning ∧ t.memory.engine = .idle ∧ t.memory.rewrite = none ∧
      t.memory.staging = { header := none, slots := [] } ∧ t.memory.lastOutcome = none ∧
      t.memory.stalls = 0 ∧ (∀ id, (t.entry id).bound = 0) ∧ t.work = none ∧
      ∀ i, (t.axis i).output =
        { window := none, step := false, dir := .positive, mode := .startUp, parkPending := false
          enable := false, brake := true }

/-- R59, R61, R149: Start-up Scan Completion classes every segment from its contents, builds every entry of
the Directory, writes nothing to a segment, and parks the outputs without changing a line. An entry is built
from the VALID segments that carry its id, its state by the first case of R61 that applies; its list, its
total and its ends are those of the segments of sequences 0 to the final one. -/
def Obligations.ScanClassesEverySegment : Prop :=
  (∀ s : State, s.power = .on → s.memory.startUp = .scanning → imagesWf s.memory.images = true →
      ∃ t, exec .startUpScanCompletion s = .next t ∧
        t.memory.startUp = .complete ∧ t.memory.images = s.memory.images ∧
        (∀ k,
          ((s.memory.image k).openMark = true → t.memory.record k = .torn) ∧
          (∀ h first last, (s.memory.image k).openMark = false → (s.memory.image k).marker = true →
            (s.memory.image k).header = some h → sparseGet 0 (s.memory.image k).slots = some first →
            sparseGet (h.count - 1) (s.memory.image k).slots = some last →
            t.memory.record k = .valid h first last) ∧
          ((s.memory.image k).openMark = false → (s.memory.image k).marker = false →
            (s.memory.image k).header = none → (s.memory.image k).slots = [] →
            t.memory.record k = .blank) ∧
          ((s.memory.image k).openMark = false → (s.memory.image k).marker = false →
            ((s.memory.image k).header ≠ none ∨ (s.memory.image k).slots ≠ []) →
            t.memory.record k = .torn)) ∧
        (∀ id, t.entry id = buildEntry id t.memory.records (s.entry id).bound) ∧
        (∀ i, t.axis i = { s.axis i with output := { (s.axis i).output with mode := .parked } }) ∧
        t.clock = s.clock ∧ t.cues = s.cues ∧ t.port = s.port ∧ t.link = s.link ∧
        t.memory.staging = s.memory.staging ∧ t.memory.engine = s.memory.engine ∧
        t.memory.rewrite = s.memory.rewrite ∧ t.memory.stalls = s.memory.stalls ∧ t.work = s.work ∧
        t.power = s.power ∧ t.draws = s.draws) ∧
  ∀ (id : TableId) (records : Sparse SegmentRecord) (bound : AxisSet) (e : DirEntry),
    recordsWf records = true → e = buildEntry id records bound →
    e.bound = bound ∧
    e.claims = ((List.range 256).filter (fun k =>
      match sparseGet k records with
      | some (.valid h _ _) => decide (h.table = id)
      | _ => false)).length ∧
    (e.state = .absent ∨ e.state = .conflicted ∨ e.state = .part →
      e.segments = [] ∧ e.total = 0 ∧ e.ends = none) ∧
    ∀ (none_ clash : Prop) (at_ : Nat → Nat → Header → Knot → Knot → Prop),
      (none_ ↔ ∀ k h a b, ¬Carries records id k h a b) →
      (clash ↔ ∃ j k h g a b c d, j ≠ k ∧ Carries records id j h a b ∧ Carries records id k g c d ∧
        h.sequence = g.sequence) →
      (∀ q k h a b, at_ q k h a b ↔ Carries records id k h a b ∧ h.sequence.val = q) →
      (none_ → e.state = .absent) ∧
      (¬none_ → clash → e.state = .conflicted) ∧
      (¬none_ → ¬clash → (∀ k h a b, Carries records id k h a b → h.final = false) →
        e.state = .part) ∧
      ∀ f, ¬clash → (∃ k h a b, at_ f k h a b ∧ h.final = true) →
        (∀ k h a b, Carries records id k h a b → h.final = true → f ≤ h.sequence.val) →
        ((∃ q, q ≤ f ∧ ∀ k h a b, ¬at_ q k h a b) ∨ (∃ q k h a b, f < q ∧ at_ q k h a b) →
          e.state = .part) ∧
        ((∀ q, q ≤ f → ∃ k h a b, at_ q k h a b) → (∀ q k h a b, at_ q k h a b → q ≤ f) →
          e.segments.length = f + 1 ∧
          (∀ q k h a b, at_ q k h a b → e.segments[q]? = some (k, h.count)) ∧
          e.total = (e.segments.map Prod.snd).sum ∧
          ∀ rises : Prop,
            (rises ↔ ∀ q k h a b j g c d, at_ q k h a b → at_ (q + 1) j g c d → b.time < c.time) →
            (¬rises → e.state = .disordered ∧ e.ends = none) ∧
            (rises → e.state = .complete ∧
              ∀ k h a b j g c d, at_ 0 k h a b → at_ f j g c d →
                e.ends = some ({ index := 0, knot := a, segment := k },
                  { index := e.total - 1, knot := d, segment := j })))

/-- R58, R78, R150, R160, R174: an addressed UNIT_RESET queues its reply and sets reset pending; a broadcast
one brings at once the values of a power-on reset and ends a Lane Update's work in hand, but that Table
Memory stays COMPLETE and keeps its segments and records, the cut-off one TORN with its open mark set, and
the outputs are PARKED. That DIR turns positive within a pulse in progress too is the model's reading (log
26). -/
def Obligations.UnitResetTakesEffect : Prop :=
  (∀ (straps : BitVec 5) (s : State), Takes .addressed s →
    exec (.unitReset .addressed straps) s =
      .next (answered .addressed 0x09
        (answerDone { s with link := { s.link with resetPending := true } }))) ∧
  ∀ (straps : BitVec 5) (s u : State), Takes .broadcast s →
    exec (.powerOnReset straps) s = .next u →
    ∃ t, exec (.unitReset .broadcast straps) s = .next t ∧
      t.power = .on ∧ t.clock = u.clock ∧ t.cues = u.cues ∧ t.port = u.port ∧ t.link = u.link ∧
      (∀ i, t.axis i =
        { u.axis i with
          output :=
            { window := none, step := (s.axis i).output.step, dir := .positive, mode := .parked
              parkPending := false, enable := false, brake := true } }) ∧
      t.memory.startUp = .complete ∧ t.memory.engine = .idle ∧ t.memory.rewrite = none ∧
      t.memory.staging = u.memory.staging ∧ t.memory.lastOutcome = none ∧ t.memory.stalls = 0 ∧
      (∀ id, (t.entry id).bound = 0) ∧
      (∀ r, s.memory.engine ≠ .idle → s.memory.rewrite = some r →
        t.memory.record r.segment = .torn ∧ StoppedImage s r (t.memory.image r.segment)) ∧
      t.work = none ∧
      ∀ k, (∀ r, s.memory.engine ≠ .idle → s.memory.rewrite = some r → k ≠ r.segment) →
        t.memory.record k = s.memory.record k ∧ t.memory.image k = s.memory.image k

/-! ### Requests -/

/-- R165, R167, R174, R175, R177: which requests reach their owner, what becomes of the others, and what the
reply holds. A kind that is none of the request kinds is refused with UNKNOWN_KIND, a payload that has not a
size of its kind with BAD_LENGTH, a STAGE_KNOTS without one to three knots among them; a broadcast one
leaves no trace. A frame that spells a request and passes the tests is performed by the request's owner.
That an addressed request finds no unit of own address 0 or 31 is R163. -/
def Obligations.RequestsAreTestedInOrder : Prop :=
  (∀ (o : Origin) (r : Request) (s : State), r.wf = true →
    (s.power ≠ .on ∨ s.link.resetPending = true → exec (requestCommand o r) s = .next s) ∧
    (s.power = .on → s.link.resetPending = false →
      (o = .addressed → s.link.addressable = false → exec (requestCommand o r) s = .next s) ∧
      (o = .addressed → s.link.addressable = true → 4 ≤ s.link.replies.length →
        exec (requestCommand o r) s =
          .next { s with
            link :=
              { s.link with
                requestOverruns := min 65535 (s.link.requestOverruns + 1)
                attention := { s.link.attention with linkError := true } } }) ∧
      (o = .addressed → s.link.addressable = true → s.link.replies.length < 4 →
        s.memory.startUp = .scanning → r.kind ≠ 0x30 →
        exec (requestCommand o r) s = .next (answered o r.kind (answerRefused .notReady s))) ∧
      (o = .addressed → s.link.addressable = true → s.link.replies.length < 4 →
        (s.memory.startUp = .complete ∨ r.kind = 0x30) →
        exec (requestCommand o r) s = .next (answered o r.kind (perform o r s))) ∧
      (o = .broadcast → s.memory.startUp = .scanning → exec (requestCommand o r) s = .next s) ∧
      (o = .broadcast → isQueryKind r.kind = true → exec (requestCommand o r) s = .next s) ∧
      (o = .broadcast → s.memory.startUp = .complete → isQueryKind r.kind = false →
        exec (requestCommand o r) s = .next (perform o r s).state))) ∧
  (∀ k : LinkPort, k.addressable = true ↔ k.ownAddress.toNat ≠ 0 ∧ k.ownAddress.toNat ≠ 31) ∧
  (∀ kind : Byte, isQueryKind kind = true ↔ kind.toNat ∈ [0x30, 0x31, 0x32, 0x33]) ∧
  (∀ (kind : Byte) (x : Result),
      answered .broadcast kind x = x.state ∧
      answered .addressed kind x =
        { x.state with
          link :=
            { x.state.link with
              replies :=
                x.state.link.replies ++
                  [{ address := x.state.link.ownAddress, kind := kind, outcome := x.outcome
                     data := x.data }] } }) ∧
  (∀ kind : Byte, requestKind kind = true ↔ kind.toNat ∈ [0x01, 0x02, 0x03, 0x04, 0x05, 0x06, 0x07, 0x08,
    0x09, 0x10, 0x11, 0x12, 0x13, 0x14, 0x15, 0x16, 0x17, 0x18, 0x19, 0x1A, 0x20, 0x21, 0x28, 0x29,
    0x2A, 0x2B, 0x2C, 0x30, 0x31, 0x32, 0x33, 0x38]) ∧
  (∀ (straps : BitVec 5) (kind : Byte) (payload : List Byte), requestKind kind = true →
    (decodeRequest straps kind payload = none ↔ sizeOf kind.toNat payload.length = false)) ∧
  (∀ (o : Origin) (kind : Byte) (request : Option Request) (s : State), s.power = .on →
    s.link.resetPending = false →
    (o = .addressed → s.link.addressable = true ∧ s.link.replies.length < 4) →
    (requestKind kind = false →
      takeRequest o kind request s = answered o kind (answerRefused .unknownKind s)) ∧
    (requestKind kind = true → s.memory.startUp = .scanning → kind ≠ 0x30 →
      takeRequest o kind request s = answered o kind (answerRefused .notReady s)) ∧
    (requestKind kind = true → s.memory.startUp = .complete ∨ kind = 0x30 → request = none →
      takeRequest o kind request s = answered o kind (answerRefused .badLength s)) ∧
    ∀ r, requestKind kind = true → s.memory.startUp = .complete ∨ kind = 0x30 → request = some r →
      (o = .addressed ∨ isQueryKind kind = false →
        takeRequest o kind request s = answered o kind (perform o r s)) ∧
      (o = .broadcast → isQueryKind kind = true → takeRequest o kind request s = s)) ∧
  ∀ (o : Origin) (first : Byte) (knots : List KnotField) (s : State), Takes o s →
    knots.length = 0 ∨ 3 < knots.length →
    exec (.stageKnots o first knots) s = .next (answered o 0x29 (answerRefused .badLength s))

/-- R93, R166: a refused request changes no state and its reply carries no data; one that names an axis
index above 15 is refused with BAD_AXIS. That an AXIS_QUERY which names a page or a part that is not there
as well gets BAD_AXIS is the model's reading (log 17). -/
def Obligations.RefusedRequestsChangeNothing : Prop :=
  (∀ (o : Origin) (r : Request) (s : State),
     (perform o r s).outcome ≠ .done → (perform o r s).outcome ≠ .doneClamped →
     (perform o r s).state = s ∧ (perform o r s).data = []) ∧
  (∀ (o : Origin) (s : State) (axis kind page part : Byte) (f : MotionFields) (g : SenseFields)
     (body : LawBody) (x y : BitVec 64), Takes o s → 16 ≤ axis.toNat →
     ∀ r ∈ [Request.axisMotionConfig axis f, .axisSenseConfig axis g, .home axis, .faultAck axis,
         .cueable (.axisLaw axis kind body), .cueable (.enable axis), .cueable (.disable axis),
         .cueable (.track axis), .cueable (.stop axis), .cueable (.move axis x y),
         .cueable (.flush axis), .axisQuery axis page part],
       (o = .broadcast → isQueryKind r.kind = false) →
       exec (requestCommand o r) s = .next (answered o r.kind (answerRefused .badAxis s)))

/-! ### The Sky Clock -/

/-- R3, R4, R9, R11: RUN, SYNC, SKY_SET, SHOW_SET and SKY_RATE. SYNC shows only in the phase of later
LANE_UPDATEs, which the model does not hold (log 6). -/
def Obligations.ClockRequestsTakeEffect : Prop :=
  ∀ (o : Origin) (s : State) (x : BitVec 64) (length : BitVec 16), Takes o s →
    exec (.run o) s =
      .next (answered o 0x01 (answerDone { s with clock := { s.clock with state := .running } })) ∧
    exec (.sync o) s = .next (answered o 0x02 (answerDone s)) ∧
    exec (.skySet o x) s =
      .next (answered o 0x05
        (answerDone { s with clock := { s.clock with pendingSky := some x.toInt } })) ∧
    exec (.showSet o x) s =
      .next (answered o 0x07
        (answerDone { s with clock := { s.clock with pendingShow := some x.toInt } })) ∧
    exec (.skyRate o x length) s =
      .next (answered o 0x06
        { outcome :=
            if x.toInt < -(2 ^ 47 - 1) ∨ 2 ^ 47 - 1 < x.toInt then .doneClamped else .done
          data := []
          state :=
            { s with
              clock :=
                { s.clock with
                  ramp := some
                    { startRate := s.clock.rate
                      endRate := max (-(2 ^ 47 - 1)) (min (2 ^ 47 - 1) x.toInt)
                      length := length.toNat, taken := 0 } } } })

/-- R13, R14, R102, R122, R34: HOLD and RELEASE, when they hand a hold event to the axes, and what an
axis takes from one in each state. -/
def Obligations.HoldAndReleaseReachTheAxes : Prop :=
  (∀ (o : Origin) (s : State), Takes o s →
    exec (.hold o) s =
      .next (answered o 0x03 (answerDone
        { s with
          clock := { s.clock with softHold := true }
          axes :=
            if s.clock.softHold ∨ s.clock.holdLine.active then s.axes
            else s.axes.map Axis.holdAsserted })) ∧
    exec (.release o) s =
      .next (answered o 0x04 (answerDone
        { s with
          clock := { s.clock with softHold := false }
          axes :=
            if s.clock.softHold ∧ s.clock.holdLine.active = false then
              s.axes.map Axis.holdReleased
            else s.axes }))) ∧
  ∀ a : Axis,
    (a.motion.holdResponse = .follow → a.holdAsserted = a ∧ a.holdReleased = a) ∧
    (a.motion.holdResponse = .freeze →
      (a.state = .tracking →
        a.holdAsserted = { a with state := .frozen } ∧ a.holdReleased = a) ∧
      (a.state = .frozen →
        a.holdAsserted = a ∧ a.holdReleased = { a with state := .tracking, rebaseDue := true }) ∧
      (a.state = .homing →
        a.holdAsserted = { a with homing := { a.homing with paused := true } } ∧
        a.holdReleased = { a with homing := { a.homing with paused := false } }) ∧
      (a.state = .limited →
        a.holdAsserted =
          { a with
            remembered := if a.remembered = some .tracking then some .frozen else a.remembered } ∧
        a.holdReleased =
          { a with
            remembered := if a.remembered = some .frozen then some .tracking else a.remembered }) ∧
      (a.state = .off ∨ a.state = .ready ∨ a.state = .faulted →
        a.holdAsserted = a ∧ a.holdReleased = a))

/-- R17, R52, R54: UNIT_SETTINGS; a change to SERVE while reads wait raises the suspend request. -/
def Obligations.UnitSettingsAreWritten : Prop :=
  ∀ (o : Origin) (s : State) (policy halts hold halt : Byte), Takes o s →
    (1 < policy.toNat ∨ 1 < halts.toNat →
      exec (.unitSettings o policy halts hold halt) s =
        .next (answered o 0x08 (answerRefused .outOfRange s))) ∧
    (policy.toNat ≤ 1 → halts.toNat ≤ 1 →
      exec (.unitSettings o policy halts hold halt) s =
        .next (answered o 0x08
          { outcome := if 15 < hold.toNat ∨ 15 < halt.toNat then .doneClamped else .done
            data := []
            state :=
              { s with
                clock :=
                  { s.clock with
                    settings :=
                      { policy := if policy.toNat = 0 then .serve else .defer
                        showHaltsOnHold := decide (halts.toNat = 1)
                        holdWindow := min 15 hold.toNat, haltWindow := min 15 halt.toNat } }
                port :=
                  if policy.toNat = 0 ∧ s.anyWaiting ∧
                      (s.memory.engine = .erasing ∨ s.memory.engine = .programming) then
                    { s.port with suspendRequest := true }
                  else s.port } }))

/-- R2, R6, R7, R10, R12, R19: at a LANE_UPDATE the work of the update before is first done to its end; then
both lanes are settled by their tables, whatever cues the update fires. The rate and the ramp are those the
ramp's step leaves; a SKY_RATE fired by the update may replace the ramp, and nothing else may. A set that is
applied is consumed, so that none is pending then unless a fired SKY_SET or SHOW_SET brings another; the
software hold stays but for a fired HOLD or RELEASE. A Sky lane that
saturates sets the Sky Limit flag and raises SKY_LIMIT, and in every other case the flag stays as it is. The
clock's state, settings and line filters, the contents and records of the segments, the Staging Buffer, the
rewrite record and the Link Port but for its Attention Set are untouched; the axes, the Cue Queue, the Rewrite
Engine's state, the Table Port and the bound-axis sets may change with the work of the update. -/
def Obligations.LaneUpdateSettlesTheLanes : Prop :=
  (∀ s : State, s.power = .on →
    (finishWork s).work = none ∧ exec .laneUpdate s = exec .laneUpdate (finishWork s)) ∧
  ∀ s : State, s.power = .on → s.work = none →
    ∀ (advances : Prop) (rate : Int) (ramp : Option Ramp),
    (advances ↔ s.clock.pendingSky = none ∧ s.clock.state = .running ∧ s.clock.softHold = false ∧
      s.clock.holdLine.active = false) →
    (¬advances ∨ s.clock.ramp = none → rate = s.clock.rate ∧ ramp = s.clock.ramp) →
    (∀ r, advances → s.clock.ramp = some r →
      (r.taken + 1 < r.length →
        rate = r.startRate + Int.tdiv ((r.endRate - r.startRate) * (r.taken + 1)) r.length ∧
        ramp = some { r with taken := r.taken + 1 }) ∧
      (r.length ≤ r.taken + 1 → rate = r.endRate ∧ ramp = none)) →
    ∃ t, exec .laneUpdate s = .next t ∧
      t.clock.rate = rate ∧
      ((∀ c ∈ s.cues.records, c.request.kind ≠ 0x06) → t.clock.ramp = ramp) ∧
      ((∀ c ∈ s.cues.records, c.request.kind ≠ 0x05) → t.clock.pendingSky = none) ∧
      ((∀ c ∈ s.cues.records, c.request.kind ≠ 0x07) → t.clock.pendingShow = none) ∧
      ((∀ c ∈ s.cues.records, c.request.kind ≠ 0x03 ∧ c.request.kind ≠ 0x04) →
        t.clock.softHold = s.clock.softHold) ∧
      (∀ x, s.clock.pendingSky = some x → t.clock.skyLane = x) ∧
      (s.clock.pendingSky = none → ¬advances → t.clock.skyLane = s.clock.skyLane) ∧
      (advances →
        t.clock.skyLane = max (-2 ^ 63) (min (2 ^ 63 - 1) (s.clock.skyLane + rate)) ∧
        (s.clock.skyLane + rate < -2 ^ 63 ∨ 2 ^ 63 - 1 < s.clock.skyLane + rate →
          t.clock.skyLimit = true ∧ t.link.attention.skyLimit = true)) ∧
      (¬advances ∨ (-2 ^ 63 ≤ s.clock.skyLane + rate ∧ s.clock.skyLane + rate ≤ 2 ^ 63 - 1) →
        t.clock.skyLimit = s.clock.skyLimit ∧
          t.link.attention.skyLimit = s.link.attention.skyLimit) ∧
      (∀ x, s.clock.pendingShow = some x → t.clock.showLane = x) ∧
      (s.clock.pendingShow = none →
        t.clock.showLane =
          if s.clock.state = .stopped ∨
              ((s.clock.softHold ∨ s.clock.holdLine.active) ∧ s.clock.settings.showHaltsOnHold) then
            s.clock.showLane
          else max (-2 ^ 63) (min (2 ^ 63 - 1) (s.clock.showLane + 1000))) ∧
      t.clock.state = s.clock.state ∧ t.clock.settings = s.clock.settings ∧
      t.clock.holdLine = s.clock.holdLine ∧ t.clock.haltLine = s.clock.haltLine ∧
      t.memory.images = s.memory.images ∧ t.memory.records = s.memory.records ∧
      t.memory.staging = s.memory.staging ∧ t.memory.rewrite = s.memory.rewrite ∧
      t.link = { s.link with attention := t.link.attention } ∧ t.power = s.power

/-- R8, R19, R20: a LANE_UPDATE settles the lanes and begins the work of the sixteen axes in ascending index
and of the firing pass; some of that work, how much is free (log 11), is done with it. Each step of the work
is the next axis's whole turn, over the lanes and marks the update handed on, or a step of the firing pass;
requests may come between two of them. With no cue due the work is the turns in their order. -/
def Obligations.TurnsComeInAscendingOrder : Prop :=
  (∀ (s : State) (u : LaneUpdate), s.power = .on → s.work = none → u = s.clock.settle.2 →
    (∃ n, exec .laneUpdate s =
      .next (runWork n
        { settleLanes s with
          work := some
            { update := u
              turns := [0, 1, 2, 3, 4, 5, 6, 7, 8, 9, 10, 11, 12, 13, 14, 15], firing := true }
          draws := s.draws + 1 })) ∧
    (u.skyMark = true ↔ s.clock.pendingSky ≠ none) ∧
    (u.showMark = true ↔ s.clock.pendingShow ≠ none)) ∧
  (∀ (s : State) (w : UpdateWork) (i : AxisIdx) (rest : List AxisIdx), s.work = some w →
    w.turns = i :: rest →
    (w.firing = false →
      workStep s =
        axisTurn w.update i
          { s with work := if rest = [] then none else some { w with turns := rest } }) ∧
    (w.firing = true →
      workStep s =
          axisTurn w.update i { s with work := some { w with turns := rest }, draws := s.draws + 1 } ∨
        workStep s = passStep w { s with draws := s.draws + 1 })) ∧
  (∀ s : State, runWork 0 s = s ∧ ∀ n, runWork (n + 1) s = runWork n (workStep s)) ∧
  ∀ (s : State) (w : UpdateWork), s.work = some w →
    (∀ c rest, s.cues.records = c :: rest → w.update.showLane < c.time) →
    ∃ d, finishWork s =
      { w.turns.foldl (fun s i => axisTurn w.update i s) { s with work := none } with draws := d }

/-- R153 to R156, R158: a step of the firing pass removes a head record that is due and performs its
request, and ends the pass where no record is due; when no turn is left it is the next step of the work. The
whole work of a LANE_UPDATE fires every record up to the first whose time lies after the Show lane value the
update carries, whatever the order of cues and turns. A fired request is performed as one that had arrived;
a refused one is recorded, and a success leaves only its effect. -/
def Obligations.DueCuesFire : Prop :=
  (∀ (s : State) (w : UpdateWork) (c : CueRecord) (rest : List CueRecord),
    s.cues.records = c :: rest →
    (c.time ≤ w.update.showLane →
      passStep w s = fireCue c { s with cues := { s.cues with records := rest } }) ∧
    (w.update.showLane < c.time →
      passStep w s =
        { s with work := if w.turns = [] then none else some { w with firing := false } })) ∧
  (∀ (s : State) (w : UpdateWork), s.cues.records = [] →
    passStep w s =
      { s with work := if w.turns = [] then none else some { w with firing := false } }) ∧
  (∀ (s : State) (w : UpdateWork), s.work = some w → w.firing = true → w.turns = [] →
    workStep s = passStep w s) ∧
  (∀ s t : State, s.power = .on → s.work = none → exec .laneUpdate s = .next t →
    (finishWork t).work = none ∧
    (finishWork t).cues.records =
      s.cues.records.dropWhile (fun c => decide (c.time ≤ s.clock.settle.2.showLane))) ∧
  (∀ (o : Origin) (r : CueRequest) (s : State), performCueable r s = perform o (.cueable r) s) ∧
  ∀ (c : CueRecord) (s : State),
    ((performCueable c.request s).outcome = .done ∨
        (performCueable c.request s).outcome = .doneClamped →
      fireCue c s = (performCueable c.request s).state) ∧
    ((performCueable c.request s).outcome ≠ .done →
      (performCueable c.request s).outcome ≠ .doneClamped →
      fireCue c s =
        { s with
          cues :=
            { s.cues with
              lastFailure := some
                { tag := c.tag, kind := c.request.kind, outcome := (performCueable c.request s).outcome }
              failures := min 255 (s.cues.failures + 1) }
          link := { s.link with attention := { s.link.attention with cueFailed := true } } })

/-- R12: a ramp takes max(L, 1) advancing updates to its end rate; step k of them sets the rate to start +
trunc((end − start) × k / L), and after the last the ramp is absent. The lane adds the rate just set; an
update that is not advancing does not step the ramp. -/
def Obligations.RampReachesItsEndRate : Prop :=
  (∀ (k : SkyClock) (start stop : Int) (length : Nat),
    k.ramp = some { startRate := start, endRate := stop, length := length, taken := 0 } →
    (∀ n, 1 ≤ n → n < max length 1 →
      (SkyClock.advance^[n] k).rate = start + Int.tdiv ((stop - start) * n) length ∧
      (SkyClock.advance^[n] k).ramp =
        some { startRate := start, endRate := stop, length := length, taken := n }) ∧
    (SkyClock.advance^[max length 1] k).rate = stop ∧
    (SkyClock.advance^[max length 1] k).ramp = none) ∧
  ∀ k : SkyClock,
    (k.pendingSky = none → k.state = .running → k.softHold = false → k.holdLine.active = false →
      k.settle.1.rate = k.advance.rate ∧ k.settle.1.ramp = k.advance.ramp ∧
      k.settle.1.skyLane = max (-2 ^ 63) (min (2 ^ 63 - 1) (k.skyLane + k.advance.rate))) ∧
    (k.pendingSky ≠ none ∨ k.state = .stopped ∨ k.softHold = true ∨ k.holdLine.active = true →
      k.settle.1.rate = k.rate ∧ k.settle.1.ramp = k.ramp)

/-! ### The axis laws, the wrap base and the gear transform -/

/-- R23: the LINEAR law, at each evaluation of an axis, over the value of the axis's lane: the Sky lane of
the update for lane SKY, its Show lane for lane SHOW (R19). -/
def Obligations.LinearLawSetsTheTarget : Prop :=
  (∀ u : LaneUpdate, u.time .sky = u.skyLane ∧ u.time .showing = u.showLane) ∧
  ∀ (s : State) (u : LaneUpdate) (t : Int) (a : Axis) (phase rate epoch : Int),
    a.law = .linear phase rate epoch →
    a.lawStage s t =
      ({ a with
         p := max (-2 ^ 63)
           (min (2 ^ 63 - 1) (phase + Int.fdiv ((t - epoch) * rate) (2 ^ 48))) }, true) ∧
    (a.evaluate s u).p = (a.lawStage s (u.time a.motion.lane)).1.p ∧
    (rate = 0 → -2 ^ 63 ≤ phase → phase ≤ 2 ^ 63 - 1 → (a.evaluate s u).p = phase)

/-- R24, R25, R43, R44, R49 and law 10: what a TABLE evaluation does before, after and within its table: P,
the bracket, the fetch in flight, and how a fetch starts from each validity of the bracket. That a law of
kind NONE keeps P and counts as having set it is the model's reading (log 15). -/
def Obligations.TableTargetLiesBetweenItsKnots : Prop :=
  (∀ (s : State) (t : Int) (a : Axis),
    (a.law = .none → a.lawStage s t = (a, true)) ∧
    ∀ id offset, a.law = .table id offset → a.lawStage s t = a.tableStage (s.entry id) offset t) ∧
  ∀ (e : DirEntry) (offset t : Int) (a b : Axis) (set : Bool) (first last : KnotRef),
    e.ends = some (first, last) → a.tableStage e offset t = (b, set) →
    (t < first.knot.time →
      set = true ∧ b.p = sat64 (offset + first.knot.angle) ∧ b.offTable = true ∧ b.stale = false ∧
      b.bracket = (if a.fetch = none then .before else a.bracket)) ∧
    (first.knot.time ≤ t → last.knot.time ≤ t →
      set = true ∧ b.p = sat64 (offset + last.knot.angle) ∧ b.offTable = true ∧ b.stale = false ∧
      b.bracket = (if a.fetch = none then .after else a.bracket)) ∧
    (t < first.knot.time ∨ last.knot.time ≤ t →
      b.wanted = a.wanted ∧ b.fetch = a.fetch ∧ b.fetchState = a.fetchState) ∧
    (first.knot.time ≤ t → t < last.knot.time →
      (set = true →
        ∃ low high, b.bracket = .pair low high ∧ low.knot.time ≤ t ∧ t < high.knot.time ∧
          b.p = sat64 (offset + (low.knot.angle +
            Int.fdiv ((t - low.knot.time) * (high.knot.angle - low.knot.angle))
              (high.knot.time - low.knot.time))) ∧
          b.offTable = false ∧ b.stale = false ∧
          min (sat64 (offset + low.knot.angle)) (sat64 (offset + high.knot.angle)) ≤ b.p ∧
          b.p ≤ max (sat64 (offset + low.knot.angle)) (sat64 (offset + high.knot.angle))) ∧
      (set = false → b.p = a.p ∧ b.offTable = a.offTable ∧ b.stale = true ∧ b.wanted = t ∧
        b.fetch ≠ none) ∧
      (∀ low high, a.bracket = .pair low high → low.knot.time ≤ t → t < high.knot.time →
        set = true ∧ b.bracket = a.bracket ∧ b.wanted = a.wanted ∧ b.fetch = a.fetch ∧
        b.fetchState = a.fetchState) ∧
      ((∀ low high, a.bracket = .pair low high → t < low.knot.time ∨ high.knot.time ≤ t) →
        (a.fetch ≠ none →
          set = false ∧ b.bracket = a.bracket ∧ b.fetch = a.fetch ∧ b.fetchState = a.fetchState) ∧
        (a.fetch = none → b.wanted = t ∧ ∃ f : Fetch, f.time = t ∧
          (a.bracket = .none → f.low = first ∧ f.high = last ∧ f.phase = .search) ∧
          (a.bracket = .before → f.low = first ∧ f.high = last ∧ f.phase = .stepUp) ∧
          (a.bracket = .after → f.low = first ∧ f.high = last ∧ f.phase = .stepDown) ∧
          (∀ low high, a.bracket = .pair low high →
            (high.knot.time ≤ t → f.low = high ∧ f.high = last ∧ f.phase = .stepUp) ∧
            (t < high.knot.time → f.low = first ∧ f.high = low ∧ f.phase = .stepDown)) ∧
          (f.high.index ≤ f.low.index + 1 →
            set = true ∧ b.bracket = .pair f.low f.high ∧ b.fetch = none ∧
            b.fetchState = a.fetchState) ∧
          (f.low.index + 1 < f.high.index →
            set = false ∧ b.bracket = a.bracket ∧ b.fetch = some f ∧
            b.fetchState = if a.fetchState = .discarding then .discarding else .waiting)))) ∧
    b =
      { a with
        p := b.p, offTable := b.offTable, stale := b.stale, bracket := b.bracket
        wanted := b.wanted, fetch := b.fetch, fetchState := b.fetchState
        stallCounted := b.stallCounted }

/-- R26, R28 to R31, R110: the COUPLED law reads the P its source holds; the CUED law deals with its head
by the first case, and a run of moves that are all due is done in one update, the last giving P. That a CUED
law always counts as having set P, with an empty queue too, is the model's reading (log 15). -/
def Obligations.CoupledAndCuedLawsSetTheTarget : Prop :=
  (∀ (s : State) (t : Int) (a : Axis) (source : AxisIdx) (numerator phase : Int) (denominator : Nat),
    a.law = .coupled source numerator denominator phase →
    a.lawStage s t =
      ({ a with
         p := max (-2 ^ 63) (min (2 ^ 63 - 1)
           (phase + Int.fdiv ((s.axis source).p * numerator) denominator))
         sourceHeld := decide ((s.axis source).state ≠ .tracking) }, true)) ∧
  (∀ (s : State) (t : Int) (a : Axis), a.law = .cued →
    a.lawStage s t =
      ({ a with
         p := (cuedStage t a.moves a.headStart a.p a.late).p
         moves := (cuedStage t a.moves a.headStart a.p a.late).moves
         headStart := (cuedStage t a.moves a.headStart a.p a.late).headStart
         late := (cuedStage t a.moves a.headStart a.p a.late).late }, true)) ∧
  (∀ (t p : Int) (start : Option HeadStart) (late : Bool),
    cuedStage t [] start p late = { p := p, moves := [], headStart := none, late := late }) ∧
  (∀ (t p : Int) (m : Move) (rest : List Move) (start : Option HeadStart) (h : HeadStart)
    (late : Bool), (start = some h ∨ start = none ∧ h = { time := t, position := p }) →
    (m.arrival ≤ h.time →
      cuedStage t (m :: rest) start p late =
        cuedStage t rest (some { time := m.arrival, position := m.position }) m.position true) ∧
    (h.time < m.arrival → m.arrival ≤ t →
      cuedStage t (m :: rest) start p late =
        cuedStage t rest (some { time := m.arrival, position := m.position }) m.position late) ∧
    (h.time ≤ t → t < m.arrival →
      cuedStage t (m :: rest) start p late =
        { p := max (-2 ^ 63) (min (2 ^ 63 - 1) (h.position +
            Int.fdiv ((t - h.time) * (m.position - h.position)) (m.arrival - h.time)))
          moves := m :: rest, headStart := some h, late := late }) ∧
    (t < h.time → h.time < m.arrival →
      cuedStage t (m :: rest) start p late =
        { p := h.position, moves := m :: rest, headStart := some h, late := late })) ∧
  ∀ (t p : Int) (moves : List Move) (last : Move) (start : Option HeadStart) (late : Bool),
    (∀ m ∈ moves ++ [last], m.arrival ≤ t) →
    (cuedStage t (moves ++ [last]) start p late).p = last.position ∧
    (cuedStage t (moves ++ [last]) start p late).moves = [] ∧
    (cuedStage t (moves ++ [last]) start p late).headStart = none

/-- R8, R19, R34 to R37: an axis reads the value and the mark of its own lane; when a rebase comes due at a
marked update and when it is made, the wrap base it gives, and that without saturation P − W then lies
within half a revolution of the angle C stands for; the gear transform, the soft clamp of a BOUNDED axis
with its flag, and that targets a whole revolution apart give motor targets S apart. That the mark of an
update makes a rebase due on an axis of either kind, where R34 speaks of a WRAPPING one, is the model's
reading: only a WRAPPING axis acts on it (log 15). -/
def Obligations.RebaseAndGearTransform : Prop :=
  (∀ u : LaneUpdate,
    u.time .sky = u.skyLane ∧ u.mark .sky = u.skyMark ∧
    u.time .showing = u.showLane ∧ u.mark .showing = u.showMark) ∧
  (∀ (a : Axis) (setP : Bool) (angle wrap : Int),
     angle = Int.fdiv (a.c * 2 ^ 32) a.motion.steps →
     wrap = 2 ^ 32 * Int.fdiv (a.p - angle + 2 ^ 31) (2 ^ 32) →
     (∀ (s : State) (u : LaneUpdate) (b : Axis),
      b = { a with rebaseDue := a.rebaseDue || u.mark a.motion.lane } →
      a.evaluate s u =
        ((b.lawStage s (u.time a.motion.lane)).1.rebase
          (b.lawStage s (u.time a.motion.lane)).2).gear) ∧
    (a.motion.kind = .bounded ∨ a.rebaseDue = false ∨ setP = false → a.rebase setP = a) ∧
     (a.motion.kind = .wrapping → a.rebaseDue = true → setP = true →
       a.rebase setP =
         { a with w := max (-2 ^ 63) (min (2 ^ 63 - 2 ^ 32) wrap), rebaseDue := false } ∧
       (-2 ^ 63 ≤ wrap → wrap ≤ 2 ^ 63 - 2 ^ 32 →
         angle - 2 ^ 31 ≤ a.p - (a.rebase setP).w ∧ a.p - (a.rebase setP).w ≤ angle + 2 ^ 31 - 1))) ∧
  (∀ (a : Axis) (x : Int),
     x = max (-2 ^ 63) (min (2 ^ 63 - 1) (Int.fdiv ((a.p - a.w) * a.motion.steps) (2 ^ 32))) →
     (a.motion.kind = .wrapping → a.gear = { a with m := x }) ∧
     (a.motion.kind = .bounded →
       (x < a.motion.softMin → a.gear = { a with m := a.motion.softMin, clamped := true }) ∧
       (a.motion.softMin ≤ x → a.motion.softMax < x →
         a.gear = { a with m := a.motion.softMax, clamped := true }) ∧
       (a.motion.softMin ≤ x → x ≤ a.motion.softMax →
         a.gear = { a with m := x, clamped := false })) ∧
     (a.motion.kind = .wrapping →
       -2 ^ 63 < a.gear.m → a.gear.m + a.motion.steps < 2 ^ 63 - 1 →
       ({ a with p := a.p + 2 ^ 32 } : Axis).gear.m = a.gear.m + a.motion.steps))

/-! ### The motion limiter and the lash -/

/-- R80, R81, R82 and law 3: the velocity step keeps within Vmax, never carries an axis past a target
ahead of it, stops at d = 0, and changes v by at most Amax but at a landing; a saturated C gives the
change it made. -/
def Obligations.VelocityStepKeepsItsLimits : Prop :=
  (∀ n : Nat, n < 2 ^ 80 → isqrt n * isqrt n ≤ n ∧ n < (isqrt n + 1) * (isqrt n + 1)) ∧
  (∀ (vmax amax : Nat) (d v wish x : Int), v.natAbs ≤ vmax →
    wish = Int.sign d * (min (vmax : Int) (min (d.natAbs : Int) (isqrt (2 * amax * d.natAbs)))) →
    x = v + max (-(amax : Int)) (min amax (wish - v)) →
    velocityStep vmax amax d v =
      (if d.natAbs < x.natAbs ∧ (d = 0 ∨ Int.sign x = Int.sign d) then d else x) ∧
    (velocityStep vmax amax d v).natAbs ≤ vmax ∧
    (d = 0 → velocityStep vmax amax d v = 0) ∧
    (0 < d → velocityStep vmax amax d v ≤ d) ∧
    (d < 0 → d ≤ velocityStep vmax amax d v) ∧
    (velocityStep vmax amax d v ≠ d → (velocityStep vmax amax d v - v).natAbs ≤ amax)) ∧
  ∀ (a : Axis) (x : Int), -2 ^ 63 ≤ a.c → a.c ≤ 2 ^ 63 - 1 →
    x = velocityStep a.motion.vmax a.motion.amax (a.m - a.c) a.v →
    a.moveTowardTarget.c = max (-2 ^ 63) (min (2 ^ 63 - 1) (a.c + x)) ∧
    a.moveTowardTarget.v = a.moveTowardTarget.c - a.c ∧
    a.moveTowardTarget.v.natAbs ≤ x.natAbs

/-- R84, R85, R86, laws 1 and 2: the last direction, the take-up within the budget of 500 − |v|, Lp between
−B and 0, and a step count that is the change of C and of Lp and is at most 500. The take-up alone, which a
homing turn makes too, is the same. -/
def Obligations.TakeUpKeepsWithinItsBudget : Prop :=
  (∀ a b : Axis, stepCount a b = b.v + (b.lp - a.lp)) ∧
  (∀ a b : Axis, b = a.takeUpLash → a.v.natAbs ≤ 500 →
    -(a.motion.backlash : Int) ≤ a.lp → a.lp ≤ 0 →
    b = { a with lastDir := b.lastDir, lp := b.lp } ∧
    (b.lastDir = if a.v < 0 then .negative else if 0 < a.v then .positive else a.lastDir) ∧
    (b.lastDir = .positive → b.lp = a.lp + min (-a.lp) (500 - a.v.natAbs)) ∧
    (b.lastDir = .negative → b.lp = a.lp - min (a.lp + a.motion.backlash) (500 - a.v.natAbs))) ∧
  ∀ a b : Axis, b = a.moveTowardTarget → a.motion.vmax ≤ 500 → a.v.natAbs ≤ a.motion.vmax →
    -2 ^ 63 ≤ a.c → a.c ≤ 2 ^ 63 - 1 → -(a.motion.backlash : Int) ≤ a.lp → a.lp ≤ 0 →
    (b.lastDir = if b.v < 0 then .negative else if 0 < b.v then .positive else a.lastDir) ∧
    -(a.motion.backlash : Int) ≤ b.lp ∧ b.lp ≤ 0 ∧
    (b.lastDir = .positive → b.lp = a.lp + min (-a.lp) (500 - b.v.natAbs)) ∧
    (b.lastDir = .negative → b.lp = a.lp - min (a.lp + a.motion.backlash) (500 - b.v.natAbs)) ∧
    stepCount a b = (b.c - a.c) + (b.lp - a.lp) ∧
    (stepCount a b).natAbs = (b.c - a.c).natAbs + (b.lp - a.lp).natAbs ∧
    (stepCount a b).natAbs ≤ 500 ∧
    (b.lag = true ↔ a.motion.lagLimit ≠ 0 ∧ a.motion.lagLimit < (a.m - b.c).natAbs) ∧
    b = { a with c := b.c, v := b.v, lag := b.lag, lastDir := b.lastDir, lp := b.lp }

/-! ### The turns -/

/-- R19, R79, R84, R103 to R105, R127, R134, R136: what one turn does by axis state. The tests at its start
come first: a standing DRV_FAULT, then the following check. OFF and FAULTED hand 0. In READY, TRACKING or
FROZEN a limit input that stands active on the side of travel, LIM_POS first, makes a BOUNDED axis LIMITED
and the turn hands 0; otherwise the velocity step, the take-up and the step count follow. Where the axis has
taken an entry to LIMITED, a DISABLE or an entry to FAULTED since its last turn, either that motion follows
(R79, R104) or the turn hands 0 (R90): which is a free constant of the device (log 27). That the turn which
returns from LIMITED makes the end stop test too, and the turn which enters LIMITED the LAG test, are the
model's reading (log 16). When an input is active and what the measured position is, are said as well. -/
def Obligations.TurnsDependOnTheState : Prop :=
  (∀ a : Axis,
     (a.inputActive .home = true ↔ a.filters.home.accepted = some a.sense.activeLevels.home) ∧
     (a.inputActive .limPos = true ↔ a.filters.limPos.accepted = some a.sense.activeLevels.limPos) ∧
     (a.inputActive .limNeg = true ↔ a.filters.limNeg.accepted = some a.sense.activeLevels.limNeg) ∧
     (a.inputActive .drvFault = true ↔
       a.filters.drvFault.accepted = some a.sense.activeLevels.drvFault) ∧
     (a.sense.encoderMode = .none → a.measured = none) ∧
     (a.sense.encoderMode ≠ .none →
       a.measured = some (max (-2 ^ 63) (min (2 ^ 63 - 1)
         (Int.fdiv (a.encoder.count * a.motion.steps) a.sense.counts + a.encoder.offset))))) ∧
  (∀ (i : AxisIdx) (s : State) (a : Axis), a = s.axis i →
     (∀ n, handOver i n s =
       s.setAxis i { a with output := a.output.handOver a.motion.parkMode n }) ∧
     standingTurn i s =
       s.setAxis i
         { a with
           lag := decide (a.motion.lagLimit ≠ 0 ∧ a.motion.lagLimit < (a.m - a.c).natAbs)
           output := a.output.handOver a.motion.parkMode 0 } ∧
     (a.state ≠ .off → a.state ≠ .faulted →
       ∀ cause, faultAxis i cause s = takeCause cause i s)) ∧
  (∀ (u : LaneUpdate) (i : AxisIdx) (s : State) (b : Axis), b = (turnBody u i s).axis i →
     axisTurn u i s = (turnBody u i s).setAxis i { b with stopTaken := false }) ∧
  (∀ (u : LaneUpdate) (i : AxisIdx) (s : State) (a : Axis), a = s.axis i →
     (a.state = .off ∨ a.state = .faulted →
       turnBody u i s =
         s.setAxis i { a with lag := false, output := a.output.handOver a.motion.parkMode 0 }) ∧
     (a.state ≠ .off → a.state ≠ .faulted → a.inputActive .drvFault = true →
       turnBody u i s = handOver i 0 (faultAxis i .drive s)) ∧
     (a.state = .homing → a.inputActive .drvFault = false → turnBody u i s = homingTurn i s) ∧
     (a.state = .ready ∨ a.state = .tracking ∨ a.state = .frozen ∨ a.state = .limited →
       a.inputActive .drvFault = false →
       (∀ x, a.measured = some x → a.sense.followLimit ≠ 0 →
         a.sense.followLimit < (a.c - x).natAbs →
         turnBody u i s = handOver i 0 (faultAxis i .follow s)) ∧
       ((∀ x, a.measured = some x → a.sense.followLimit ≠ 0 →
           (a.c - x).natAbs ≤ a.sense.followLimit) →
         (a.state = .ready ∨ a.state = .frozen → turnBody u i s = drivenTurn i s) ∧
         (a.state = .tracking → turnBody u i s = drivenTurn i (evaluateAxis u i s)) ∧
         (a.state = .limited → ∀ (e : State) (b : Axis), e = evaluateAxis u i s → b = e.axis i →
           ((b.activeLimit = some .limPos ∧ b.m < b.c ∨ b.activeLimit = some .limNeg ∧ b.c < b.m) →
             ∀ r, b.remembered = some r →
             turnBody u i s =
               drivenTurn i
                 (e.setAxis i
                   { b with state := r.state, remembered := none, activeLimit := none })) ∧
           (¬(b.activeLimit = some .limPos ∧ b.m < b.c ∨
               b.activeLimit = some .limNeg ∧ b.c < b.m) →
             turnBody u i s = standingTurn i e))))) ∧
  (∀ (i : AxisIdx) (s : State) (a : Axis), a = s.axis i →
     a.state = .ready ∨ a.state = .tracking ∨ a.state = .frozen →
     ((a.motion.kind = .wrapping ∨
         ¬(a.inputActive .limPos = true ∧ (0 < a.v ∨ a.c < a.m)) ∧
           ¬(a.inputActive .limNeg = true ∧ (a.v < 0 ∨ a.m < a.c))) →
       (a.stopTaken = false ∨ Config.stopHoldsTurn = false →
         drivenTurn i s =
           s.setAxis i
             { a.moveTowardTarget with
               output := a.output.handOver a.motion.parkMode (stepCount a a.moveTowardTarget) }) ∧
       (a.stopTaken = true → Config.stopHoldsTurn = true →
         drivenTurn i s =
           s.setAxis i
             { a with
               lag := decide (a.motion.lagLimit ≠ 0 ∧ a.motion.lagLimit < (a.m - a.c).natAbs)
               output := a.output.handOver a.motion.parkMode 0 })) ∧
     ∀ stop : EndStop, a.motion.kind = .bounded →
       (stop = .limPos → a.inputActive .limPos = true ∧ (0 < a.v ∨ a.c < a.m)) →
       (stop = .limNeg → a.inputActive .limNeg = true ∧ (a.v < 0 ∨ a.m < a.c) ∧
         ¬(a.inputActive .limPos = true ∧ (0 < a.v ∨ a.c < a.m))) →
       drivenTurn i s =
         (s.raise (.limit i)).setAxis i
           { a with
             remembered :=
               if a.state = .ready then some .ready
               else if a.state = .tracking then some .tracking else some .frozen
             activeLimit := some stop, v := 0, state := .limited, stopTaken := true
             lag := decide (a.motion.lagLimit ≠ 0 ∧ a.motion.lagLimit < (a.m - a.c).natAbs)
             output := a.output.handOver a.motion.parkMode 0 })

/-- R115, R119 to R121: a homing turn after its DRV_FAULT test. Beyond the travel limit, or at a limit
input on the side of the goal, it faults with HOME_FAIL; otherwise the homing command moves v toward the
goal, and in STOPPING an axis come to rest completes. Where the axis has taken a stop since its last turn, the
motion or, by a free constant of the device, R90's count of 0 (log 27). -/
def Obligations.HomingTurnFailsMovesOrCompletes : Prop :=
  ∀ (i : AxisIdx) (s : State) (a : Axis) (h g v : Int), a = s.axis i →
    h = (if a.sense.homeDirection = .positive then 1 else -1) →
    g = (if a.homing.paused then 0
      else if a.homing.phase = .backOff then -h * a.homing.speed
      else if a.homing.phase = .seekSwitch ∨ a.homing.phase = .seekIndex then h * a.homing.speed
      else 0) →
    v = a.v + max (-(a.motion.amax : Int)) (min a.motion.amax (g - a.v)) →
    ∀ fails : Prop,
    (fails ↔
      ((a.homing.phase = .backOff ∨ a.homing.phase = .seekSwitch ∨ a.homing.phase = .seekIndex) ∧
          a.sense.travelLimit < (a.c - a.homing.start).natAbs) ∨
        (a.motion.kind = .bounded ∧
          (a.inputActive .limPos = true ∧ (0 < a.v ∨ 0 < g) ∨
            a.inputActive .limNeg = true ∧ (a.v < 0 ∨ g < 0)))) →
    (fails → homingTurn i s = handOver i 0 (faultAxis i .homeFail s)) ∧
    (¬fails → ∀ (b : Axis) (n : Int),
      (a.stopTaken = false ∨ Config.stopHoldsTurn = false →
        b =
          { a with
            c := max (-2 ^ 63) (min (2 ^ 63 - 1) (a.c + v))
            v := max (-2 ^ 63) (min (2 ^ 63 - 1) (a.c + v)) - a.c
            lag := false : Axis }.takeUpLash ∧
        n = stepCount a b) →
      (a.stopTaken = true → Config.stopHoldsTurn = true → b = { a with lag := false } ∧ n = 0) →
      (a.homing.phase ≠ .stopping ∨ b.v ≠ 0 →
        homingTurn i s =
          s.setAxis i { b with output := a.output.handOver a.motion.parkMode n }) ∧
      (a.homing.phase = .stopping → b.v = 0 → ∀ c point, a.homing.reference = some c →
        a.homing.switchPoint = some point →
        ∃ d : Axis, homingTurn i s = s.setAxis i d ∧
          d.c = max (-2 ^ 63) (min (2 ^ 63 - 1) (a.sense.homeOffset + (b.c - c))) ∧
          (a.sense.encoderMode = .none → d.encoder = a.encoder) ∧
          (a.sense.encoderMode ≠ .none →
            d.encoder =
              { a.encoder with
                offset :=
                  max (-2 ^ 63) (min (2 ^ 63 - 1)
                    (d.c - Int.fdiv (a.encoder.count * a.motion.steps) a.sense.counts)) }) ∧
          d.homed = true ∧ d.state = .ready ∧
          (a.motion.kind = .wrapping → d.m = a.sense.homeOffset ∧ d.clamped = a.clamped) ∧
          (a.motion.kind = .bounded → a.motion.softMin ≤ a.sense.homeOffset →
            a.sense.homeOffset ≤ a.motion.softMax →
            d.m = a.sense.homeOffset ∧ d.clamped = false) ∧
          d.homing =
            { a.homing with
              phase := .none, paused := false, lastEnd := some (.completed, .stopping)
              distance := some (c - point) } ∧
          d =
            { b with
              c := d.c, encoder := d.encoder, homed := true, m := d.m, clamped := d.clamped
              homing := d.homing, state := .ready
              output := a.output.handOver a.motion.parkMode n }))

/-! ### Requests to an axis -/

/-- R49, R53, R96, R97, R101, R108, R123, R135, R146: ENABLE, its checks in their order and what it sets;
DISABLE, which marks the stop of R90, and FAULT_ACK. -/
def Obligations.EnableDisableAndFaultAck : Prop :=
  (∀ (o : Origin) (s : State) (axis : Byte) (i : AxisIdx) (a : Axis), Takes o s → Names axis i →
     a = s.axis i →
     ∀ agree usable : Prop,
     (agree ↔ a.motion.softMin < a.motion.softMax ∧
       (a.motion.kind = .bounded →
         a.motion.softMin ≤ a.sense.homeOffset ∧ a.sense.homeOffset ≤ a.motion.softMax) ∧
       (a.sense.homeMode = .switchIndex → a.sense.encoderMode ≠ .none)) →
     (usable ↔ ∀ id offset, a.law = .table id offset → (s.entry id).state = .complete ∧
       ∀ r, s.memory.engine ≠ .idle → s.memory.rewrite = some r →
         r.oldTable ≠ some id ∧ r.newTable ≠ some id) →
     (a.state ≠ .off →
       exec (.enable o axis) s = .next (answered o 0x13 (answerRefused .wrongState s))) ∧
     (a.state = .off → s.clock.haltLine.active = true →
       exec (.enable o axis) s = .next (answered o 0x13 (answerRefused .halted s))) ∧
     (a.state = .off → s.clock.haltLine.active = false → ¬agree →
       exec (.enable o axis) s = .next (answered o 0x13 (answerRefused .outOfRange s))) ∧
     (a.state = .off → s.clock.haltLine.active = false → agree → ¬usable →
       exec (.enable o axis) s = .next (answered o 0x13 (answerRefused .tableUnusable s))) ∧
     (a.state = .off → s.clock.haltLine.active = false → agree → usable →
       exec (.enable o axis) s =
         .next (answered o 0x13 (answerDone (s.setAxis i
           { a with
             state := .ready, v := 0, bracket := .none
             m :=
               if a.motion.kind = .bounded ∧ a.homed = true then
                 max a.motion.softMin (min a.motion.softMax a.c)
               else a.c
             clamped :=
               if a.motion.kind = .bounded ∧ a.homed = true then
                 decide (a.c < a.motion.softMin ∨ a.motion.softMax < a.c)
               else a.clamped
             encoder :=
               if a.homed = true ∨ a.sense.encoderMode = .none then a.encoder
               else
                 { a.encoder with
                   offset :=
                     max (-2 ^ 63) (min (2 ^ 63 - 1)
                       (a.c - Int.fdiv (a.encoder.count * a.motion.steps) a.sense.counts)) }
             output :=
               { a.output with
                 mode := .active, parkPending := false, enable := true, brake := false } }))))) ∧
  (∀ (o : Origin) (s : State) (axis : Byte) (i : AxisIdx) (a : Axis), Takes o s → Names axis i →
     a = s.axis i →
     (a.state = .off → exec (.disable o axis) s = .next (answered o 0x14 (answerDone s))) ∧
     (a.state = .faulted →
       exec (.disable o axis) s = .next (answered o 0x14 (answerRefused .wrongState s))) ∧
     (a.state ≠ .off → a.state ≠ .faulted →
       exec (.disable o axis) s =
         .next (answered o 0x14 (answerDone (resumeIfIdle (s.setAxis i
           { a with
             bracket := .none, fetch := none, stallCounted := false
             fetchState :=
               if a.fetchState = .granted ∨ a.fetchState = .discarding then .discarding else .idle
             v := 0, moves := [], headStart := none, remembered := none, activeLimit := none
             stopTaken := true
             homing :=
               if a.homing.phase = .none then a.homing
               else
                 { a.homing with
                   phase := .none, paused := false, lastEnd := some (.ended, a.homing.phase) }
             homed := a.homed && decide (a.motion.parkMode = .holdTorque)
             state := .off
             output :=
               if a.output.window = none then
                 { a.output with
                   mode := .parked, parkPending := false
                   enable := decide (a.motion.parkMode = .holdTorque)
                   brake := decide (a.motion.parkMode = .brake) }
               else { a.output with mode := .parked, parkPending := true } }))))) ∧
     (a.state = .faulted →
       exec (.faultAck o axis) s =
         .next (answered o 0x1A (answerDone (s.setAxis i
           { a with
             state := .off
             fault := { cause := .none, time := 0, stateAt := .ready, further := 0 } })))) ∧
     (a.state ≠ .faulted →
       exec (.faultAck o axis) s = .next (answered o 0x1A (answerRefused .wrongState s))))

/-- R98, R99, R100, R114: TRACK, STOP and HOME, by the state of the axis. -/
def Obligations.TrackStopAndHomeFollowTheirTables : Prop :=
  ∀ (o : Origin) (s : State) (axis : Byte) (i : AxisIdx) (a : Axis), Takes o s → Names axis i →
    a = s.axis i →
    ∀ held : Prop, (held ↔ (s.clock.softHold = true ∨ s.clock.holdLine.active = true) ∧
      a.motion.holdResponse = .freeze) → ∀ _ : Decidable held,
    (a.state ≠ .ready ∨ a.law = .none →
      exec (.track o axis) s = .next (answered o 0x16 (answerRefused .wrongState s))) ∧
    (a.state = .ready → a.law ≠ .none → a.motion.kind = .bounded → a.homed = false →
      exec (.track o axis) s = .next (answered o 0x16 (answerRefused .notHomed s))) ∧
    (a.state = .ready → a.law ≠ .none → (a.motion.kind = .bounded → a.homed = true) →
      exec (.track o axis) s =
        .next (answered o 0x16 (answerDone (s.setAxis i
          { a with rebaseDue := true, state := if held then .frozen else .tracking })))) ∧
    (a.state = .tracking ∨ a.state = .frozen →
      exec (.stop o axis) s =
        .next (answered o 0x17 (answerDone (s.setAxis i { a with state := .ready })))) ∧
    (a.state = .ready → exec (.stop o axis) s = .next (answered o 0x17 (answerDone s))) ∧
    (a.state = .limited → (a.motion.kind = .wrapping ∨ a.homed = false) →
      exec (.stop o axis) s =
        .next (answered o 0x17 (answerDone (s.setAxis i
          { a with m := a.c, state := .ready, remembered := none, activeLimit := none })))) ∧
    (a.state = .limited → a.motion.kind = .bounded → a.homed = true →
      a.motion.softMin < a.motion.softMax →
      exec (.stop o axis) s =
        .next (answered o 0x17 (answerDone (s.setAxis i
          { a with
            m := max a.motion.softMin (min a.motion.softMax a.c)
            clamped := decide (a.c < a.motion.softMin ∨ a.motion.softMax < a.c)
            state := .ready, remembered := none, activeLimit := none })))) ∧
    (a.state = .off ∨ a.state = .homing ∨ a.state = .faulted →
      exec (.stop o axis) s = .next (answered o 0x17 (answerRefused .wrongState s))) ∧
    (a.state ≠ .ready ∨ a.sense.homeMode = .none →
      exec (.home o axis) s = .next (answered o 0x15 (answerRefused .wrongState s))) ∧
    (a.state = .ready → a.sense.homeMode ≠ .none →
      exec (.home o axis) s =
        .next (answered o 0x15 (answerDone (s.setAxis i
          { a with
            state := .homing
            homing :=
              { a.homing with
                speed := min a.sense.homeSpeed a.motion.vmax, start := a.c
                switchPoint := none, reference := none
                phase := if a.inputActive .home then .backOff else .seekSwitch
                paused := decide held } }))))

/-- R27, R32: MOVE and FLUSH, with the occupancy and the number removed in their replies. -/
def Obligations.MoveAndFlushChangeTheMoveQueue : Prop :=
  ∀ (o : Origin) (s : State) (axis : Byte) (i : AxisIdx) (a : Axis) (x y : BitVec 64),
    Takes o s → Names axis i → a = s.axis i →
    (a.law ≠ .cued ∨ a.state = .faulted →
      exec (.move o axis x y) s = .next (answered o 0x18 (answerRefused .wrongState s))) ∧
    (a.law = .cued → a.state ≠ .faulted → 8 ≤ a.moves.length →
      exec (.move o axis x y) s = .next (answered o 0x18 (answerRefused .queueFull s))) ∧
    (a.law = .cued → a.state ≠ .faulted → a.moves.length < 8 →
      exec (.move o axis x y) s =
        .next (answered o 0x18
          { outcome := .done, data := [BitVec.ofNat 8 (a.moves.length + 1)]
            state :=
              s.setAxis i
                { a with
                  moves := a.moves ++ [{ position := x.toInt, arrival := y.toInt }] } })) ∧
    exec (.flush o axis) s =
      .next (answered o 0x19
        { outcome := .done, data := [BitVec.ofNat 8 a.moves.length]
          state := s.setAxis i { a with moves := [], headStart := none } })

/-- R21, R22, R49, R53, R62, R110, R177: AXIS_LAW, its checks in their order, and what an accepted one
changes; the bound-axis sets follow it. A rewrite concerns a table id while the engine is not IDLE and the
id is the old or the new one of its record; a table id is usable when its entry is COMPLETE and no rewrite
concerns it. -/
def Obligations.AxisLawReplacesTheRecord : Prop :=
  (∀ (m : TableMemory) (id : TableId),
    (m.concerns id = true ↔
      m.engine ≠ .idle ∧ ∃ r, m.rewrite = some r ∧ (r.oldTable = some id ∨ r.newTable = some id)) ∧
    (m.usable id = true ↔ m.directory[id].state = .complete ∧ m.concerns id = false)) ∧
  (∀ (law : Law) (id : TableId), law.tableId = some id ↔ ∃ offset, law = .table id offset) ∧
  ∀ (o : Origin) (s : State) (axis kind : Byte) (body : LawBody) (i : AxisIdx) (a : Axis),
    Takes o s → Names axis i → a = s.axis i →
    (4 < kind.toNat →
      exec (.axisLaw o axis kind body) s =
        .next (answered o 0x12 (answerRefused .outOfRange s))) ∧
    (∀ id offset, kind.toNat = 2 → body = .table id offset → 63 < id.toNat →
      exec (.axisLaw o axis kind body) s =
        .next (answered o 0x12 (answerRefused .outOfRange s))) ∧
    (∀ source numerator denominator phase, kind.toNat = 3 →
      body = .coupled source numerator denominator phase →
      (numerator.toInt = 0 ∨ denominator.toNat = 0 ∨ 2 ^ 31 < denominator.toNat →
        exec (.axisLaw o axis kind body) s =
          .next (answered o 0x12 (answerRefused .outOfRange s))) ∧
      (numerator.toInt ≠ 0 → 1 ≤ denominator.toNat → denominator.toNat ≤ 2 ^ 31 →
        i.val ≤ source.toNat →
        exec (.axisLaw o axis kind body) s =
          .next (answered o 0x12 (answerRefused .couplingOrder s)))) ∧
    (∀ size, (kind.toNat = 0 ∨ kind.toNat = 4) ∧ size = 0 ∨ kind.toNat = 1 ∧ size = 24 ∨
        kind.toNat = 2 ∧ size = 9 ∨ kind.toNat = 3 ∧ size = 17 →
      body.bytes.length ≠ size →
      exec (.axisLaw o axis kind body) s =
        .next (answered o 0x12 (answerRefused .badLength s))) ∧
    (kind.toNat = 0 → body = .empty →
      a.state = .tracking ∨ a.state = .frozen ∨ a.state = .limited →
      exec (.axisLaw o axis kind body) s =
        .next (answered o 0x12 (answerRefused .wrongState s))) ∧
    (∀ law : Law,
      (kind.toNat = 0 ∧ body = .empty ∧ law = .none ∧
          a.state ≠ AxisState.tracking ∧ a.state ≠ .frozen ∧ a.state ≠ .limited) ∨
        (kind.toNat = 4 ∧ body = .empty ∧ law = .cued) ∨
        (∃ phase rate epoch, kind.toNat = 1 ∧ body = .linear phase rate epoch ∧
          law = .linear phase.toInt rate.toInt epoch.toInt) ∨
        (∃ (b : Byte) (id : TableId) (offset : BitVec 64), kind.toNat = 2 ∧
          body = .table b offset ∧ b.toNat = id.val ∧ law = .table id offset.toInt) ∨
        (∃ (b : Byte) (source : AxisIdx) (numerator denominator : BitVec 32) (phase : BitVec 64),
          kind.toNat = 3 ∧ body = .coupled b numerator denominator phase ∧
          numerator.toInt ≠ 0 ∧ 1 ≤ denominator.toNat ∧ denominator.toNat ≤ 2 ^ 31 ∧
          b.toNat = source.val ∧ source < i ∧
          law = .coupled source numerator.toInt denominator.toNat phase.toInt) →
      (∀ id, a.state ≠ .off → law.tableId = some id → s.memory.usable id = false →
        exec (.axisLaw o axis kind body) s =
          .next (answered o 0x12 (answerRefused .tableUnusable s))) ∧
      ((∀ id, a.state ≠ .off → law.tableId = some id → s.memory.usable id = true) →
        ∃ memory : TableMemory,
          exec (.axisLaw o axis kind body) s =
            .next (answered o 0x12 (answerDone (resumeIfIdle
              ({ s with memory := memory }.setAxis i
                { a with
                  law := law, moves := [], headStart := none, offTable := false, stale := false
                  sourceHeld := false
                  rebaseDue := a.rebaseDue || decide (a.state ≠ AxisState.off)
                  bracket := .none, fetch := none, stallCounted := false
                  fetchState :=
                    if a.fetchState = FetchState.granted ∨ a.fetchState = FetchState.discarding then
                      .discarding
                    else .idle })))) ∧
          memory = { s.memory with directory := memory.directory } ∧
          ∀ id : TableId, memory.directory[id] =
            { s.memory.directory[id] with bound := memory.directory[id].bound } ∧
            (∀ j, inSet memory.directory[id].bound j =
              if j = i ∧ law.tableId = some id then true
              else if j = i ∧ a.law.tableId = some id then false
              else inSet s.memory.directory[id].bound j)))

/-- R38, R83, R88, R94, R147: AXIS_MOTION_CONFIG, its checks, its saturation and its side effects. -/
def Obligations.AxisMotionConfigIsTakenInOff : Prop :=
  ∀ (o : Origin) (s : State) (axis : Byte) (f : MotionFields) (i : AxisIdx) (a : Axis),
    Takes o s → Names axis i → a = s.axis i →
    ∀ inRange : Prop,
    (inRange ↔ f.kind.toNat ≤ 1 ∧ 1 ≤ f.steps.toNat ∧ f.steps.toNat ≤ 16777216 ∧
      f.lane.toNat ≤ 1 ∧ f.backlash.toNat ≤ 4095 ∧ f.lagLimit.toNat ≤ 2 ^ 31 - 1 ∧
      f.holdResponse.toNat ≤ 1 ∧ f.parkMode.toNat ≤ 2) →
    (a.state ≠ .off →
      exec (.axisMotionConfig o axis f) s =
        .next (answered o 0x10 (answerRefused .wrongState s))) ∧
    (a.state = .off → ¬inRange →
      exec (.axisMotionConfig o axis f) s =
        .next (answered o 0x10 (answerRefused .outOfRange s))) ∧
    (a.state = .off → inRange → ∃ b : Axis,
      exec (.axisMotionConfig o axis f) s =
        .next (answered o 0x10
          { outcome :=
              if f.vmax.toInt < 1 ∨ 500 < f.vmax.toInt ∨ f.amax.toInt < 1 ∨ 250 < f.amax.toInt then
                .doneClamped
              else .done
            data := [], state := s.setAxis i b }) ∧
      b.motion =
        { kind := if f.kind.toNat = 0 then .wrapping else .bounded
          steps := f.steps.toNat
          lane := if f.lane.toNat = 0 then .sky else .showing
          vmax := (max 1 (min 500 f.vmax.toInt)).toNat
          amax := (max 1 (min 250 f.amax.toInt)).toNat
          backlash := f.backlash.toNat
          softMin := f.softMin.toInt, softMax := f.softMax.toInt
          lagLimit := f.lagLimit.toNat
          holdResponse := if f.holdResponse.toNat = 0 then .follow else .freeze
          parkMode :=
            if f.parkMode.toNat = 0 then .holdTorque
            else if f.parkMode.toNat = 1 then .release else .brake } ∧
      (∀ same : Prop,
        (same ↔ b.motion.kind = a.motion.kind ∧ b.motion.steps = a.motion.steps ∧
          b.motion.softMin = a.motion.softMin ∧ b.motion.softMax = a.motion.softMax) →
        (same → b.homed = a.homed ∧ b.clamped = a.clamped ∧ b.rebaseDue = a.rebaseDue) ∧
        (¬same → b.homed = false ∧ b.clamped = false ∧ b.rebaseDue = false)) ∧
      b.w = (if b.motion.kind = .bounded then 0 else a.w) ∧
      (b.motion.backlash = a.motion.backlash → b.lp = a.lp ∧ b.lastDir = a.lastDir) ∧
      (b.motion.backlash ≠ a.motion.backlash → b.lp = 0 ∧ b.lastDir = .positive) ∧
      (b.motion.parkMode = a.motion.parkMode ∨ a.output.parkPending = true →
        b.output = a.output) ∧
      (b.motion.parkMode ≠ a.motion.parkMode → a.output.mode = .parked →
        a.output.parkPending = false →
        b.output =
          { a.output with
            enable := decide (b.motion.parkMode = .holdTorque)
            brake := decide (b.motion.parkMode = .brake) }) ∧
      b =
        { a with
          motion := b.motion, homed := b.homed, clamped := b.clamped, rebaseDue := b.rebaseDue
          w := b.w, lp := b.lp, lastDir := b.lastDir, output := b.output })

/-- R95, R113, R128, R133: AXIS_SENSE_CONFIG, its checks, its saturation, and that a change of an active
level changes no axis state. -/
def Obligations.AxisSenseConfigIsTakenInOff : Prop :=
  ∀ (o : Origin) (s : State) (axis : Byte) (f : SenseFields) (i : AxisIdx) (a : Axis),
    Takes o s → Names axis i → a = s.axis i →
    ∀ inRange : Prop,
    (inRange ↔ f.encoderMode.toNat ≤ 3 ∧ f.invert.toNat ≤ 1 ∧ 1 ≤ f.counts.toNat ∧
      f.counts.toNat ≤ 16777216 ∧ f.followLimit.toNat ≤ 2 ^ 31 - 1 ∧ f.homeMode.toNat ≤ 2 ∧
      f.homeDirection.toNat ≤ 1 ∧ 1 ≤ f.travelLimit.toNat ∧ f.travelLimit.toNat ≤ 2 ^ 31 - 1 ∧
      f.activeLevels.home.toNat ≤ 1 ∧ f.activeLevels.limPos.toNat ≤ 1 ∧
      f.activeLevels.limNeg.toNat ≤ 1 ∧ f.activeLevels.drvFault.toNat ≤ 1) →
    (a.state ≠ .off →
      exec (.axisSenseConfig o axis f) s =
        .next (answered o 0x11 (answerRefused .wrongState s))) ∧
    (a.state = .off → ¬inRange →
      exec (.axisSenseConfig o axis f) s =
        .next (answered o 0x11 (answerRefused .outOfRange s))) ∧
    (a.state = .off → inRange → ∃ g : SenseConfig,
      exec (.axisSenseConfig o axis f) s =
        .next (answered o 0x11
          { outcome :=
              if f.homeSpeed.toInt < 1 ∨ 500 < f.homeSpeed.toInt ∨ 15 < f.windows.home.toNat ∨
                  15 < f.windows.limPos.toNat ∨ 15 < f.windows.limNeg.toNat ∨
                  15 < f.windows.drvFault.toNat then
                .doneClamped
              else .done
            data := []
            state :=
              s.setAxis i
                { a with
                  sense := g
                  homed :=
                    a.homed && decide (g.encoderMode = a.sense.encoderMode ∧
                      g.invert = a.sense.invert ∧ g.counts = a.sense.counts ∧
                      g.homeOffset = a.sense.homeOffset) } }) ∧
      codeIn [.none, .x1, .x2, .x4] g.encoderMode = f.encoderMode ∧ g.invert = decide (f.invert.toNat = 1) ∧
      g.counts = f.counts.toNat ∧ g.followLimit = f.followLimit.toNat ∧
      codeIn [.none, .switch, .switchIndex] g.homeMode = f.homeMode ∧
      codeIn [.positive, .negative] g.homeDirection = f.homeDirection ∧
      g.homeSpeed = (max 1 (min 500 f.homeSpeed.toInt)).toNat ∧
      g.travelLimit = f.travelLimit.toNat ∧ g.homeOffset = f.homeOffset.toInt ∧
      g.activeLevels =
        { home := if f.activeLevels.home.toNat = 0 then .low else .high
          limPos := if f.activeLevels.limPos.toNat = 0 then .low else .high
          limNeg := if f.activeLevels.limNeg.toNat = 0 then .low else .high
          drvFault := if f.activeLevels.drvFault.toNat = 0 then .low else .high } ∧
      g.windows =
        { home := min 15 f.windows.home.toNat, limPos := min 15 f.windows.limPos.toNat
          limNeg := min 15 f.windows.limNeg.toNat, drvFault := min 15 f.windows.drvFault.toNat })

/-! ### Holds, faults and inputs -/

/-- R16, R105 to R107, R127: an acceptance of DRV_FAULT as active, or of the Halt line as active, is a
fault cause: OFF leaves it, FAULTED counts it, every other state faults. An acceptance as inactive only
shows. -/
def Obligations.FaultCausesReachTheAxes : Prop :=
  (∀ (cause : FaultCause) (i : AxisIdx) (s : State) (a : Axis), a = s.axis i →
    (a.state = .off → takeCause cause i s = s) ∧
    (a.state = .faulted →
      takeCause cause i s =
        s.setAxis i { a with fault := { a.fault with further := min 255 (a.fault.further + 1) } }) ∧
    (a.state ≠ .off → a.state ≠ .faulted →
      takeCause cause i s =
        resumeIfIdle ((s.raise (.axisFault i)).setAxis i
          { a with
            bracket := .none, fetch := none, stallCounted := false
            fetchState :=
              if a.fetchState = .granted ∨ a.fetchState = .discarding then .discarding else .idle
            v := 0, moves := [], headStart := none, remembered := none, activeLimit := none
            stopTaken := true
            homing :=
              if a.homing.phase = .none then a.homing
              else
                { a.homing with
                  phase := .none, paused := false
                  lastEnd := some (if cause = .homeFail then .failed else .ended, a.homing.phase) }
            homed := false
            fault := { cause := cause, time := s.clock.showLane, stateAt := a.state, further := 0 }
            state := .faulted
            output :=
              if a.output.window = none then
                { a.output with
                  mode := .parked, parkPending := false
                  enable := decide (a.motion.parkMode = .holdTorque)
                  brake := decide (a.motion.parkMode = .brake) }
              else { a.output with mode := .parked, parkPending := true } }))) ∧
  (∀ (i : AxisIdx) (level : Level) (s : State), s.power = .on →
    (s.axis i).accepts .drvFault level →
    exec (.drvFaultAcceptance i level) s =
      .next (if level = (s.axis i).sense.activeLevels.drvFault then
        takeCause .drive i (s.setAxis i ((s.axis i).accept .drvFault level))
      else s.setAxis i ((s.axis i).accept .drvFault level))) ∧
  ∀ (level : Level) (s t : State), s.power = .on →
    s.clock.haltLine.completes s.clock.settings.haltWindow level →
    t = { s with
      clock := { s.clock with haltLine := { active := Level.asserted level, runCount := 0 } } } →
    (level = .high → exec (.haltLineAcceptance level) s = .next t) ∧
    (level = .low →
      exec (.haltLineAcceptance level) s =
        .next ([0, 1, 2, 3, 4, 5, 6, 7, 8, 9, 10, 11, 12, 13, 14, 15].foldl
          (fun s i => takeCause .halt i s) t))

/-- R13, R15, R125, R126: a sample of a line. One that completes no acceptance changes the filter alone;
one that completes it is the acceptance event; an UNSETTLED filter that settles on the inactive level
hands nothing on; an acceptance of the Hold line that turns the hold reaches every axis. -/
def Obligations.FilterSamplesAcceptOrCount : Prop :=
  (∀ level : Level, Level.asserted level = decide (level = .low)) ∧
  (∀ (i : AxisIdx) (k : InputKind) (level : Level) (s : State) (a : Axis), s.power = .on →
    a = s.axis i →
    (a.accepts k level →
      exec (.filterSample (.axisInput i k) level) s =
        exec (match k with
          | .home => .homeAcceptance i level
          | .limPos => .limitAcceptance i .limPos level
          | .limNeg => .limitAcceptance i .limNeg level
          | .drvFault => .drvFaultAcceptance i level) s) ∧
    (Completes (a.sense.windows.get k) level (a.filters.get k) → ¬a.accepts k level →
      exec (.filterSample (.axisInput i k) level) s = .next (s.setAxis i (a.accept k level))) ∧
    (¬Completes (a.sense.windows.get k) level (a.filters.get k) →
      exec (.filterSample (.axisInput i k) level) s =
        .next (s.setAxis i
          { a with
            filters :=
              a.filters.put k
                { accepted := (a.filters.get k).accepted
                  runLevel :=
                    if (a.filters.get k).accepted = none then level else (a.filters.get k).runLevel
                  runCount :=
                    if (a.filters.get k).accepted = some level then 0
                    else if (a.filters.get k).accepted = none ∧
                        level ≠ (a.filters.get k).runLevel then 1
                    else (a.filters.get k).runCount + 1 } }))) ∧
  (∀ (level : Level) (s : State), s.power = .on →
    ∀ (window : Nat) (f : LineFilter), f = s.clock.holdLine → window = s.clock.settings.holdWindow →
    (¬f.completes window level →
      exec (.filterSample .holdLine level) s =
        .next { s with
          clock :=
            { s.clock with
              holdLine :=
                { f with runCount := if Level.asserted level = f.active then 0 else f.runCount + 1 } } }) ∧
    (f.completes window level → ∀ t : State,
      t = { s with
        clock := { s.clock with holdLine := { active := Level.asserted level, runCount := 0 } }
        axes :=
          if s.clock.softHold then s.axes
          else if level = .low then s.axes.map Axis.holdAsserted
          else s.axes.map Axis.holdReleased } →
      exec (.holdLineAcceptance level) s = .next t ∧
      exec (.filterSample .holdLine level) s = .next t)) ∧
  ∀ (level : Level) (s : State), s.power = .on →
    (s.clock.haltLine.completes s.clock.settings.haltWindow level →
      exec (.filterSample .haltLine level) s = exec (.haltLineAcceptance level) s) ∧
    (¬s.clock.haltLine.completes s.clock.settings.haltWindow level →
      exec (.filterSample .haltLine level) s =
        .next { s with
          clock :=
            { s.clock with
              haltLine :=
                { s.clock.haltLine with
                  runCount :=
                    if Level.asserted level = s.clock.haltLine.active then 0
                    else s.clock.haltLine.runCount + 1 } } })

/-- R103, R116 to R119, R121, R127: an acceptance of LIM_POS or LIM_NEG as active on the side of travel
makes a BOUNDED axis in READY, TRACKING or FROZEN LIMITED and faults a homing; an acceptance of HOME ends
BACK_OFF when inactive and SEEK_SWITCH when active; in every other phase and state they only show. -/
def Obligations.LimitAndHomeAcceptancesReachTheAxis : Prop :=
  (stopInput .limPos = .limPos ∧ stopInput .limNeg = .limNeg) ∧
  (∀ (i : AxisIdx) (stop : EndStop) (level : Level) (s : State) (a b : Axis), s.power = .on →
     a = s.axis i → a.accepts (stopInput stop) level → b = a.accept (stopInput stop) level →
     ∀ (side : Int → Prop) (h goal : Int),
     h = (if a.sense.homeDirection = .positive then 1 else -1) →
     goal = (if a.homing.paused then 0
       else if a.homing.phase = .backOff then -h * a.homing.speed
       else if a.homing.phase = .seekSwitch ∨ a.homing.phase = .seekIndex then h * a.homing.speed
       else 0) →
     (∀ x, side x ↔ (stop = .limPos ∧ (0 < a.v ∨ 0 < x)) ∨ (stop = .limNeg ∧ (a.v < 0 ∨ x < 0))) →
     (level ≠ a.sense.activeLevels.get (stopInput stop) ∨ a.motion.kind = .wrapping ∨
         a.state = .off ∨ a.state = .limited ∨ a.state = .faulted →
       exec (.limitAcceptance i stop level) s = .next (s.setAxis i b)) ∧
     (level = a.sense.activeLevels.get (stopInput stop) → a.motion.kind = .bounded →
       (a.state = .ready ∨ a.state = .tracking ∨ a.state = .frozen →
         (¬side (a.m - a.c) → exec (.limitAcceptance i stop level) s = .next (s.setAxis i b)) ∧
         (side (a.m - a.c) →
           exec (.limitAcceptance i stop level) s =
             .next ((s.raise (.limit i)).setAxis i
               { b with
                 remembered :=
                   if a.state = .ready then some .ready
                   else if a.state = .tracking then some .tracking else some .frozen
                 activeLimit := some stop, v := 0, state := .limited, stopTaken := true }))) ∧
       (a.state = .homing →
         (¬side goal → exec (.limitAcceptance i stop level) s = .next (s.setAxis i b)) ∧
         (side goal →
           exec (.limitAcceptance i stop level) s =
             .next (takeCause .homeFail i (s.setAxis i b)))))) ∧
  (∀ (i : AxisIdx) (level : Level) (s : State) (a b : Axis), s.power = .on →
     a = s.axis i → a.accepts .home level → b = a.accept .home level →
     ∀ active : Prop, (active ↔ level = a.sense.activeLevels.home) →
     (a.state ≠ .homing ∨ a.homing.phase = .none ∨ a.homing.phase = .seekIndex ∨
         a.homing.phase = .stopping ∨ (a.homing.phase = .backOff ∧ active) ∨
         (a.homing.phase = .seekSwitch ∧ ¬active) →
       exec (.homeAcceptance i level) s = .next (s.setAxis i b)) ∧
     (a.state = .homing → a.homing.phase = .backOff → ¬active →
       exec (.homeAcceptance i level) s =
         .next (s.setAxis i { b with homing := { a.homing with phase := .seekSwitch } })) ∧
     (a.state = .homing → a.homing.phase = .seekSwitch → active →
       exec (.homeAcceptance i level) s =
         .next (s.setAxis i
           { b with
             homing :=
               { a.homing with
                 switchPoint := some a.c
                 reference :=
                   if a.sense.homeMode = .switchIndex then a.homing.reference else some a.c
                 phase := if a.sense.homeMode = .switchIndex then .seekIndex else .stopping } })))

/-! ### The encoder -/

/-- R130 to R132: what a new pair state counts, by encoder mode and inversion; a transition of both lines
is a glitch; the first pair state seen, and an unchanged one, count nothing. -/
def Obligations.EncoderTransitionsCountEdges : Prop :=
  ∀ (i : AxisIdx) (x y : Level) (s : State) (a : Axis), s.power = .on → a = s.axis i →
    (a.encoder.pair = none →
      exec (.encoderTransition i x y) s =
        .next (s.setAxis i { a with encoder := { a.encoder with pair := some (x, y) } })) ∧
    ∀ (old : Level × Level) (x4 x2 x1 d : Int), a.encoder.pair = some old →
      (old, (x, y), x4, x2, x1) ∈
        [(((.low, .low), (.high, .low), 1, 1, 1) :
            (Level × Level) × (Level × Level) × Int × Int × Int),
          ((.high, .low), (.high, .high), 1, 0, 0), ((.high, .high), (.low, .high), 1, 1, 0),
          ((.low, .high), (.low, .low), 1, 0, 0), ((.high, .low), (.low, .low), -1, -1, -1),
          ((.high, .high), (.high, .low), -1, 0, 0), ((.low, .high), (.high, .high), -1, -1, 0),
          ((.low, .low), (.low, .high), -1, 0, 0)] ∨
        (x4 = 0 ∧ x2 = 0 ∧ x1 = 0 ∧ (old = (x, y) ∨ (old.1 ≠ x ∧ old.2 ≠ y))) →
      d = (match a.sense.encoderMode with | .none => 0 | .x1 => x1 | .x2 => x2 | .x4 => x4) →
      exec (.encoderTransition i x y) s =
        .next (s.setAxis i
          { a with
            encoder :=
              { a.encoder with
                pair := some (x, y)
                count :=
                  max (-2 ^ 63) (min (2 ^ 63 - 1) (a.encoder.count + if a.sense.invert then -d else d))
                glitches :=
                  if old.1 ≠ x ∧ old.2 ≠ y ∧ a.sense.encoderMode ≠ .none then
                    min 255 (a.encoder.glitches + 1)
                  else a.encoder.glitches } })

/-- R118, R137, R138, R140: a rise of ENC_I after a level seen low is an index event. In HOMING it ends
SEEK_INDEX and touches no capture; elsewhere it is captured, or counted as missed while a capture is
pending. -/
def Obligations.IndexEventsAreCapturedOrCounted : Prop :=
  ∀ (i : AxisIdx) (level : Level) (s : State) (a b : Axis), s.power = .on → a = s.axis i →
    b = { a with encoder := { a.encoder with index := some level } } →
    (level = .low ∨ a.encoder.index ≠ some .low ∨ a.sense.encoderMode = .none →
      exec (.indexEvent i level) s = .next (s.setAxis i b)) ∧
    (level = .high → a.encoder.index = some .low → a.sense.encoderMode ≠ .none →
      (a.state = .homing →
        exec (.indexEvent i level) s =
          .next (s.setAxis i
            (if a.homing.phase = .seekIndex then
              { b with homing := { a.homing with reference := some a.c, phase := .stopping } }
            else b))) ∧
      (a.state ≠ .homing → a.encoder.capture.pending = true →
        exec (.indexEvent i level) s =
          .next (s.setAxis i
            { b with
              encoder :=
                { b.encoder with
                  capture :=
                    { a.encoder.capture with
                      missed := min 255 (a.encoder.capture.missed + 1) } } })) ∧
      (a.state ≠ .homing → a.encoder.capture.pending = false →
        exec (.indexEvent i level) s =
          .next ((s.raise (.capture i)).setAxis i
            { b with
              encoder :=
                { b.encoder with
                  capture :=
                    { a.encoder.capture with
                      current := some { count := a.encoder.count, time := s.clock.showLane }
                      previous := a.encoder.capture.current, pending := true } } })))

/-- Law 11 and R139: whatever the command, a pending capture stays as it is, unless a reply placed by the
command has carried it, or a reset emptied the record. -/
def Obligations.PendingCapturesAreKeptUntilCarried : Prop :=
  ∀ (c : Instr) (s t : State) (i : AxisIdx) (x y : IndexCapture), exec c s = .next t →
    x = (s.axis i).encoder.capture → y = (t.axis i).encoder.capture → x.pending = true →
    (y.pending = true ∧ y.current = x.current ∧ y.previous = x.previous ∧
      min 255 x.missed ≤ y.missed) ∨
    (y = { x with pending := false, missed := 0 } ∧
      ∃ r : Reply, t.link.replies = s.link.replies ++ [r] ∧ r.kind = 0x31 ∧ r.outcome = .done ∧
        r.data = axisCapture x) ∨
    (y = { current := none, previous := none, pending := false, missed := 0 } ∧
      t.clock = SkyClock.reset ∧ t.link.replies = [])

/-! ### Drive outputs -/

/-- R143 to R147: a pulse begins while pulses of a started window are due and STEP is inactive; its end starts
a window that waited for it, or ends the window whose last pulse it was and carries out a park that waited.
A handed count first settles the window in hand, and one that is not 0 opens a window of its sign, which
starts and turns DIR at once but while a pulse is in progress. -/
def Obligations.StepPulsesFollowTheWindow : Prop :=
  (∀ (i : AxisIdx) (s : State) (a : Axis), s.power = .on → a = s.axis i →
     (∀ w, a.output.window = some w → w.started = true → w.begun < w.count → a.output.step = false →
       exec (.stepPulseBegin i) s =
         .next (s.setAxis i
           { a with
             output :=
               { a.output with window := some { w with begun := w.begun + 1 }, step := true } })) ∧
     ((a.output.step = true ∨ ∀ w, a.output.window = some w → w.started = false ∨ w.count ≤ w.begun) →
       exec (.stepPulseBegin i) s = .next s) ∧
     (a.output.step = false → exec (.stepPulseEnd i) s = .next s) ∧
     (a.output.step = true →
       (a.output.window = none ∨
           (∃ w, a.output.window = some w ∧ w.started = true ∧ w.begun < w.count) →
         exec (.stepPulseEnd i) s =
           .next (s.setAxis i { a with output := { a.output with step := false } })) ∧
       (∀ w, a.output.window = some w → w.started = false →
         exec (.stepPulseEnd i) s =
           .next (s.setAxis i
             { a with
               output :=
                 { a.output with
                   step := false, window := some { w with started := true }, dir := w.sense } })) ∧
       (∀ w, a.output.window = some w → w.started = true → w.count ≤ w.begun →
         exec (.stepPulseEnd i) s =
           .next (s.setAxis i
             { a with
               output :=
                 if a.output.parkPending then
                   { a.output with
                     step := false, window := none, parkPending := false
                     enable := decide (a.motion.parkMode = .holdTorque)
                     brake := decide (a.motion.parkMode = .brake) }
                 else { a.output with step := false, window := none } })))) ∧
  (∀ (mode : ParkMode) (n : Int) (o settled : Output),
     settled =
       (if o.parkPending then
         { o with
           window := none, parkPending := false, enable := decide (mode = .holdTorque)
           brake := decide (mode = .brake) }
       else { o with window := none }) →
     o.handOver mode n =
       if n = 0 then settled
       else
         { settled with
           window := some
             { sense := if n < 0 then .negative else .positive
               count := n.natAbs, started := !o.step, begun := 0 }
           dir := if o.step then o.dir else if n < 0 then .negative else .positive })

/-! ### The cue queue -/

/-- R151, R152, R157: the cueable kinds, and which payloads have a size of theirs; CUE, its checks in their
order, where its record joins, and CUE_CANCEL. -/
def Obligations.CuesJoinInFiringOrder : Prop :=
  (∀ kind : Byte,
    (cueableKind kind = true ↔ kind.toNat ∈
      [0x03, 0x04, 0x05, 0x06, 0x07, 0x12, 0x13, 0x14, 0x16, 0x17, 0x18, 0x19]) ∧
    (cueableKind kind = true → ∀ payload : List Byte,
      (decodeCueRequest kind payload = none ↔ sizeOf kind.toNat payload.length = false) ∧
      ∀ r, decodeCueRequest kind payload = some r → r.kind = kind)) ∧
  ∀ (o : Origin) (s : State) (time : BitVec 64) (tag kind : Byte) (payload : List Byte),
    Takes o s →
    (cueableKind kind = false →
      exec (.cue o time tag kind payload) s =
        .next (answered o 0x20 (answerRefused .notCueable s))) ∧
    (cueableKind kind = true → decodeCueRequest kind payload = none →
      exec (.cue o time tag kind payload) s =
        .next (answered o 0x20 (answerRefused .badLength s))) ∧
    (∀ r, cueableKind kind = true → decodeCueRequest kind payload = some r →
      (32 ≤ s.cues.records.length →
        exec (.cue o time tag kind payload) s =
          .next (answered o 0x20 (answerRefused .queueFull s))) ∧
      (s.cues.records.length < 32 →
        exec (.cue o time tag kind payload) s =
          .next (answered o 0x20
            { outcome := .done, data := [BitVec.ofNat 8 (s.cues.records.length + 1)]
              state :=
                { s with
                  cues :=
                    { s.cues with
                      records :=
                        s.cues.records.takeWhile (fun c => decide (c.time ≤ time.toInt)) ++
                          { time := time.toInt, tag := tag, request := r } ::
                            s.cues.records.dropWhile
                              (fun c => decide (c.time ≤ time.toInt)) } } }))) ∧
    exec (.cueCancel o tag) s =
      .next (answered o 0x21
        { outcome := .done
          data := [BitVec.ofNat 8 (s.cues.records.filter (fun c => decide (c.tag = tag))).length]
          state :=
            { s with
              cues :=
                { s.cues with
                  records := s.cues.records.filter (fun c => decide (c.tag ≠ tag)) } } })

/-! ### The table port -/

/-- R42, R50, R51: a grant, when no read is in progress and the engine lets reads through, goes to the
waiting axis that comes first in the order of service, and starts the read its fetch asks for. The port makes
it in the event that brings these conditions together (log 25): a read that joins an idle port, the completion
of a read, a Suspend Acknowledge, the end of a rewrite. KNOT_READ_GRANT makes the one that is due. -/
def Obligations.GrantsGoInServiceOrder : Prop :=
  (∀ s : State, s.power = .on → exec .knotReadGrant s = .next (grantRead s)) ∧
  (∀ (s : State) (i : AxisIdx) (r : PortRead), s.port.reading = none →
    (s.memory.engine = .idle ∨ s.memory.engine = .eraseSuspended ∨
      s.memory.engine = .programSuspended) →
    (s.axis i).fetchState = .waiting →
    (∀ j, (s.axis j).fetchState = .waiting → s.readTarget j ≠ none →
      (i - s.port.lastServed - 1).val ≤ (j - s.port.lastServed - 1).val) →
    s.readTarget i = some r →
    grantRead s =
      { s with port := { s.port with reading := some r, lastServed := i } }.setAxis i
        { s.axis i with fetchState := .granted, stallCounted := false }) ∧
  (∀ (s : State),
    s.port.reading ≠ none ∨ s.memory.engine = .erasing ∨ s.memory.engine = .programming ∨
      s.memory.engine = .aborting ∨
      (∀ i, (s.axis i).fetchState = .waiting → s.readTarget i = none) →
    grantRead s = s) ∧
  (∀ (s : State) (i : AxisIdx),
    s.memory.engine = .idle ∨ s.memory.engine = .eraseSuspended ∨
      s.memory.engine = .programSuspended →
    postRead i s = grantRead s) ∧
  ∀ (s : State) (i : AxisIdx) (r : PortRead), s.readTarget i = some r →
    ∃ f id, (s.axis i).fetch = some f ∧ (s.axis i).law.tableId = some id ∧
      r.axis = i ∧ r.index = f.nextIndex ∧
      ∃ before count rest, (s.entry id).segments = before ++ (r.segment, count) :: rest ∧
        r.index = (before.map Prod.snd).sum + r.slot ∧ r.slot < count

/-- R42, R44, R45, R47, R49, R50, R53: the knot a fetch asks for, by its phase, lies strictly between its
two knots; it becomes the low knot where its time lies at or before the search time and the high one
otherwise, which keeps the search time between the two and narrows them, and a search at least halves the
way. The completion of a read gives the knot of the slot it names to its axis, which ends its fetch with a
PAIR or asks for its next knot; a discarded knot is dropped; a suspended engine with nothing left to wait
for resumes, and the port makes its next grant. -/
def Obligations.ReadCompletionsNarrowTheFetch : Prop :=
  (∀ (f : Fetch) (k : KnotRef),
    (f.phase = .stepUp → f.nextIndex = f.low.index + 1) ∧
    (f.phase = .stepDown → f.nextIndex = f.high.index - 1) ∧
    (f.phase = .search → f.nextIndex = (f.low.index + f.high.index) / 2) ∧
    (k.knot.time ≤ f.time → f.take k = { f with low := k, phase := .search }) ∧
    (f.time < k.knot.time → f.take k = { f with high := k, phase := .search })) ∧
  (∀ (s : State) (r : PortRead) (x : Knot),
    sparseGet r.slot (s.memory.image r.segment).slots = some x →
    s.knotAt r = { index := r.index, knot := x, segment := r.segment }) ∧
  ((∀ f : Fetch, f.low.index + 1 < f.high.index →
     f.low.index < f.nextIndex ∧ f.nextIndex < f.high.index) ∧
   ∀ (f g : Fetch) (k : KnotRef), g = f.take k → k.index = f.nextIndex →
     f.low.index + 1 < f.high.index → f.low.knot.time ≤ f.time → f.time < f.high.knot.time →
     g.time = f.time ∧ g.phase = .search ∧
     g.low.knot.time ≤ g.time ∧ g.time < g.high.knot.time ∧
     f.low.index ≤ g.low.index ∧ g.low.index < g.high.index ∧ g.high.index ≤ f.high.index ∧
     g.high.index - g.low.index < f.high.index - f.low.index ∧
     (f.phase = .search → 2 * (g.high.index - g.low.index) ≤ f.high.index - f.low.index + 1)) ∧
  ((∀ s : State, s.port.reading = none → exec .knotReadCompletion s = .next s) ∧
   ∀ (s idle : State) (r : PortRead) (a : Axis), s.power = .on → s.port.reading = some r →
     a = s.axis r.axis → idle = { s with port := { s.port with reading := none } } →
     (∀ f g, a.fetchState = .granted → a.fetch = some f → g = f.take (s.knotAt r) →
       (g.high.index ≤ g.low.index + 1 →
         exec .knotReadCompletion s =
           .next (grantRead (resumeIfIdle (idle.setAxis r.axis
             { a with
               bracket := .pair g.low g.high, fetch := none, fetchState := .idle
               stallCounted := false })))) ∧
       (g.low.index + 1 < g.high.index →
         exec .knotReadCompletion s =
           .next (grantRead (resumeIfIdle (postRead r.axis (idle.setAxis r.axis
             { a with fetch := some g, fetchState := .waiting, stallCounted := false })))))) ∧
     (a.fetchState = .discarding → a.fetch = none →
       exec .knotReadCompletion s =
         .next (grantRead (resumeIfIdle (idle.setAxis r.axis { a with fetchState := .idle })))) ∧
     (∀ f, a.fetchState = .discarding → a.fetch = some f →
       exec .knotReadCompletion s =
         .next (grantRead (resumeIfIdle (postRead r.axis (idle.setAxis r.axis
           { a with fetchState := .waiting, stallCounted := false }))))))

/-! ### Table memory -/

/-- R50, R52, R53, R58, R69 to R73: the events of the Rewrite Engine, each in the state that takes it; in
any other state, IDLE among them, it does not occur. Where a phase is stopped its segment holds the part of
the erase that is done or the first part of the staged image that is written; a FAILED segment holds some or
all of what was written, and an abort leaves what it found. How much each time is free (log 4). -/
def Obligations.RewriteEngineEventsTakeTheirStep : Prop :=
  (∀ s : State, s.power = .on →
    (s.port.suspendRequest = true → s.memory.engine = .erasing →
      exec .suspendAcknowledge s =
        .next (grantRead (resumeIfIdle
          (((stopPhase s).setEngine .eraseSuspended).setSuspendRequest false)))) ∧
    (s.port.suspendRequest = true → s.memory.engine = .programming →
      exec .suspendAcknowledge s =
        .next (grantRead (resumeIfIdle
          (((stopPhase s).setEngine .programSuspended).setSuspendRequest false)))) ∧
    (s.memory.engine ≠ .erasing ∨ s.memory.rewrite = none → exec .eraseCompletion s = .next s) ∧
    (s.memory.engine ≠ .programming ∨ s.memory.rewrite = none →
      ∀ b, exec (.programCompletion b) s = .next s) ∧
    (s.memory.engine ≠ .aborting ∨ s.memory.rewrite = none → exec .abortCompletion s = .next s) ∧
    (s.port.suspendRequest = false ∨
        (s.memory.engine ≠ .erasing ∧ s.memory.engine ≠ .programming) →
      exec .suspendAcknowledge s = .next s)) ∧
  (∀ s : State, s.memory.engine = .idle ∨ s.memory.rewrite = none → stopPhase s = s) ∧
  (∀ (s : State) (r : Rewrite), s.memory.engine ≠ .idle → s.memory.rewrite = some r →
    ∃ image : SegmentImage, StoppedImage s r image ∧
      stopPhase s =
        { s with memory := s.memory.setImage r.segment image, draws := s.draws + 1 }) ∧
  ∀ (s : State) (r : Rewrite), s.power = .on → s.memory.rewrite = some r →
    (s.memory.engine = .erasing → r.eraseOnly = true →
      exec .eraseCompletion s =
        .next (endRewrite .erased .blank
          { header := none, slots := [], marker := false, openMark := false } r s)) ∧
    (s.memory.engine = .erasing → r.eraseOnly = false →
      exec .eraseCompletion s =
        .next (raiseSuspend
          ({ s with
             memory := s.memory.setImage r.segment
               { header := none, slots := [], marker := false, openMark := true } }.setEngine
            .programming))) ∧
    (∀ h first last, s.memory.engine = .programming → s.memory.staging.header = some h →
      sparseGet 0 s.memory.staging.slots = some first →
      sparseGet (h.count - 1) s.memory.staging.slots = some last →
      exec (.programCompletion true) s =
        .next (endRewrite .verified (.valid h first last)
          { header := some h
            slots := s.memory.staging.slots.filter (fun e => decide (e.1 < h.count))
            marker := true, openMark := false } r s)) ∧
    (∀ h, s.memory.engine = .programming → s.memory.staging.header = some h →
      ∃ image : SegmentImage, image.openMark = true ∧
        image.Within
          { header := some h
            slots := s.memory.staging.slots.filter (fun e => decide (e.1 < h.count))
            marker := true, openMark := true } ∧
        exec (.programCompletion false) s =
          .next (endRewrite .failed .torn image r { s with draws := s.draws + 1 })) ∧
    (s.memory.engine = .aborting →
      exec .abortCompletion s =
        .next (endRewrite .aborted .torn { s.memory.image r.segment with openMark := true } r s))

/-- R50, R71: what the end of a rewrite does, whatever ended it; with the engine IDLE the port then grants a
pending read. -/
def Obligations.EndOfARewriteLeavesTheEngineIdle : Prop :=
  ∀ (outcome : RewriteOutcome) (record : SegmentRecord) (image : SegmentImage) (r : Rewrite)
    (s t : State), t = closeRewrite outcome record image r s →
    endRewrite outcome record image r s = grantRead t ∧
    (imagesWf s.memory.images = true → recordsWf s.memory.records = true → r.segment < 256 →
    t.memory.record r.segment = record ∧ t.memory.image r.segment = image ∧
    (∀ k, k ≠ r.segment →
      t.memory.record k = s.memory.record k ∧ t.memory.image k = s.memory.image k) ∧
    t.memory.lastOutcome = some (outcome, r.segment) ∧
    t.memory.staging = { header := none, slots := [] } ∧ t.memory.engine = .idle ∧
    t.memory.rewrite = none ∧ t.memory.stalls = s.memory.stalls ∧
    t.memory.startUp = s.memory.startUp ∧
    (∀ id, t.entry id =
      if r.oldTable = some id ∨ r.newTable = some id then
        buildEntry id t.memory.records (s.entry id).bound
      else s.entry id) ∧
    t.link = { s.link with attention := { s.link.attention with rewriteEnd := true } } ∧
    t.port = { s.port with suspendRequest := false } ∧ t.clock = s.clock ∧ t.axes = s.axes ∧
    t.cues = s.cues ∧ t.work = s.work)

/-- R50, R52 to R54: when the suspend request is raised, when a suspended engine resumes (in any other state
of the engine no resume is handed), which waiting reads the Table Stall count takes, and what the port does
at the moment a read joins the pending set, which an axis's evaluation brings where it starts to wait. -/
def Obligations.PortActsOnThePendingSet : Prop :=
  (∀ s : State,
    (s.clock.settings.policy = .serve → (∃ i, (s.axis i).fetchState = .waiting) →
      s.memory.engine = .erasing ∨ s.memory.engine = .programming →
      raiseSuspend s = { s with port := { s.port with suspendRequest := true } }) ∧
    (s.clock.settings.policy = .defer ∨ (∀ i, (s.axis i).fetchState ≠ .waiting) ∨
        (s.memory.engine ≠ .erasing ∧ s.memory.engine ≠ .programming) →
      raiseSuspend s = s)) ∧
  (∀ (s : State) (e : EngineState),
    (s.memory.engine = .eraseSuspended ∧ e = .erasing ∨
      s.memory.engine = .programSuspended ∧ e = .programming) →
    ((∀ i, (s.axis i).fetchState ≠ .waiting) → s.port.reading = none →
      resumeIfIdle s =
        { s with
          memory := { s.memory with engine := e }
          port := { s.port with suspendRequest := false } }) ∧
    ((∃ i, (s.axis i).fetchState = .waiting) ∨ s.port.reading ≠ none → resumeIfIdle s = s)) ∧
  (∀ s : State,
    (s.anyWaiting = true ↔ ∃ i, (s.axis i).fetchState = .waiting) ∧
    (s.memory.engine = .idle ∨ s.memory.engine = .erasing ∨ s.memory.engine = .programming ∨
        s.memory.engine = .aborting →
      resumeIfIdle s = s)) ∧
  (∀ (s t : State), t = countStalls s →
    (s.clock.settings.policy = .serve → t = s) ∧
    (s.clock.settings.policy = .defer →
      (s.memory.stalls ≤ 65535 →
        t.memory.stalls =
          min 65535
            (s.memory.stalls +
              ([0, 1, 2, 3, 4, 5, 6, 7, 8, 9, 10, 11, 12, 13, 14, 15].filter (fun i : AxisIdx =>
                decide ((s.axis i).fetchState = .waiting ∧ (s.axis i).stallCounted = false))).length)) ∧
      (∀ i,
        ((s.axis i).fetchState = .waiting → t.axis i = { s.axis i with stallCounted := true }) ∧
        ((s.axis i).fetchState ≠ .waiting → t.axis i = s.axis i)) ∧
      t =
        { s with axes := t.axes, memory := { s.memory with stalls := t.memory.stalls } })) ∧
  (∀ (s : State) (i : AxisIdx) (a : Axis), a = s.axis i →
    (a.fetchState = .waiting → a.stallCounted = false →
      countStall s i =
        { s with
          memory := { s.memory with stalls := min 65535 (s.memory.stalls + 1) } }.setAxis i
          { a with stallCounted := true }) ∧
    (a.fetchState ≠ .waiting ∨ a.stallCounted = true → countStall s i = s)) ∧
  (∀ (s : State) (i : AxisIdx),
    (s.memory.engine = .idle ∨ s.memory.engine = .eraseSuspended ∨
        s.memory.engine = .programSuspended →
      postRead i s = grantRead s) ∧
    (s.memory.engine = .erasing ∨ s.memory.engine = .programming ∨ s.memory.engine = .aborting →
      (s.clock.settings.policy = .defer → postRead i s = countStall s i) ∧
      (s.clock.settings.policy = .serve → (s.axis i).fetchState = .waiting →
        postRead i s =
          if s.memory.engine = .aborting then s
          else { s with port := { s.port with suspendRequest := true } }))) ∧
  ∀ (u : LaneUpdate) (i : AxisIdx) (s t : State), t = s.setAxis i ((s.axis i).evaluate s u) →
    ((t.axis i).fetchState = .waiting → (s.axis i).fetchState ≠ .waiting →
      evaluateAxis u i s = postRead i t) ∧
    ((t.axis i).fetchState ≠ .waiting ∨ (s.axis i).fetchState = .waiting →
      evaluateAxis u i s = t)

/-- R64 to R66: STAGE_HEADER, STAGE_KNOTS and STAGE_CLEAR. -/
def Obligations.StagingRequestsFillTheBuffer : Prop :=
  ∀ (o : Origin) (s : State) (table sequence count final first : Byte) (knots : List KnotField),
    Takes o s → knotCountOk knots = true →
    ∀ inRange : Prop,
    (inRange ↔ table.toNat < 64 ∧ sequence.toNat < 16 ∧ 1 ≤ count.toNat ∧ count.toNat ≤ 63 ∧
      final.toNat ≤ 1) →
    (s.memory.engine ≠ .idle →
      exec (.stageHeader o table sequence count final) s =
        .next (answered o 0x28 (answerRefused .stagingBusy s)) ∧
      exec (.stageKnots o first knots) s =
        .next (answered o 0x29 (answerRefused .stagingBusy s)) ∧
      exec (.stageClear o) s = .next (answered o 0x2A (answerRefused .stagingBusy s))) ∧
    (s.memory.engine = .idle →
      (¬inRange →
        exec (.stageHeader o table sequence count final) s =
          .next (answered o 0x28 (answerRefused .outOfRange s))) ∧
      (inRange → ∃ h : Header,
        exec (.stageHeader o table sequence count final) s =
          .next (answered o 0x28 (answerDone
            { s with
              memory :=
                { s.memory with staging := { s.memory.staging with header := some h } } })) ∧
        h.table.val = table.toNat ∧ h.sequence.val = sequence.toNat ∧ h.count = count.toNat ∧
        h.final = decide (final.toNat = 1)) ∧
      (62 < first.toNat ∨ 63 < first.toNat + knots.length →
        exec (.stageKnots o first knots) s =
          .next (answered o 0x29 (answerRefused .outOfRange s))) ∧
      (first.toNat ≤ 62 → first.toNat + knots.length ≤ 63 →
        ∃ slots : Sparse Knot,
          exec (.stageKnots o first knots) s =
            .next (answered o 0x29 (answerDone
              { s with
                memory := { s.memory with staging := { s.memory.staging with slots := slots } } })) ∧
          (keysRise 63 0 s.memory.staging.slots = true → ∀ k,
            sparseGet k slots =
              if first.toNat ≤ k ∧ k < first.toNat + knots.length then
                (knots[k - first.toNat]?).map
                  (fun x => { time := x.time.toInt, angle := x.angle.toInt })
              else sparseGet k s.memory.staging.slots)) ∧
      exec (.stageClear o) s =
        .next (answered o 0x2A (answerDone
          { s with
            memory := { s.memory with staging := { header := none, slots := [] } } })))

/-- R54, R58, R67, R68, R73: COMMIT, its checks in their order and what its acceptance starts; and
ABORT_REWRITE, which stops the phase in hand where it stands. -/
def Obligations.CommitIsCheckedInOrder : Prop :=
  (∀ (h : Header) (first last : Knot), (SegmentRecord.valid h first last).presentTable = some h.table) ∧
  (∀ x ∈ [SegmentRecord.blank, .torn, .busy], x.presentTable = none) ∧
  ∀ (o : Origin) (s : State) (segment : BitVec 16) (erase : Byte), Takes o s →
    ∀ (inUse filled ordered : Prop),
    (inUse ↔ ∃ i id, (s.axis i).state ≠ .off ∧ inSet (s.entry id).bound i = true ∧
      ((∃ h first last, s.memory.record segment.toNat = .valid h first last ∧ h.table = id) ∨
        ∃ h, s.memory.staging.header = some h ∧ h.table = id)) →
    (filled ↔ ∃ h, s.memory.staging.header = some h ∧
      ∀ k, k < h.count → sparseGet k s.memory.staging.slots ≠ none) →
    (ordered ↔ ∀ h k x y, s.memory.staging.header = some h → k + 1 < h.count →
      sparseGet k s.memory.staging.slots = some x →
      sparseGet (k + 1) s.memory.staging.slots = some y → x.time < y.time) →
    (256 ≤ segment.toNat ∨ 1 < erase.toNat →
      exec (.commit o segment erase) s = .next (answered o 0x2B (answerRefused .outOfRange s))) ∧
    (segment.toNat < 256 → erase.toNat ≤ 1 →
      (s.memory.engine ≠ .idle →
        exec (.commit o segment erase) s =
          .next (answered o 0x2B (answerRefused .rewriteBusy s))) ∧
      (s.memory.engine = .idle → inUse →
        exec (.commit o segment erase) s =
          .next (answered o 0x2B (answerRefused .segInUse s))) ∧
      (s.memory.engine = .idle → ¬inUse → erase.toNat = 0 → ¬filled →
        exec (.commit o segment erase) s =
          .next (answered o 0x2B (answerRefused .incomplete s))) ∧
      (s.memory.engine = .idle → ¬inUse → erase.toNat = 0 → filled → ¬ordered →
        exec (.commit o segment erase) s =
          .next (answered o 0x2B (answerRefused .disorder s))) ∧
      (s.memory.engine = .idle → ¬inUse → (erase.toNat = 0 → filled ∧ ordered) →
        (∀ h, s.memory.staging.header = some h → 1 ≤ h.count) →
        ∃ t : State,
          exec (.commit o segment erase) s =
            .next (answered o 0x2B (answerDone (raiseSuspend (countStalls t)))) ∧
          t = { s with memory := t.memory } ∧
          t.memory =
            { (s.memory.setRecord segment.toNat .busy).setImage segment.toNat
                { s.memory.image segment.toNat with openMark := true } with
              engine := .erasing
              rewrite := some
                { segment := segment.toNat, eraseOnly := decide (erase.toNat = 1)
                  oldTable := (s.memory.record segment.toNat).presentTable
                  newTable := s.memory.staging.header.map Header.table } })) ∧
    (s.memory.engine = .idle ∨ s.memory.engine = .aborting →
      exec (.abortRewrite o) s = .next (answered o 0x2C (answerRefused .wrongState s))) ∧
    (s.memory.engine = .erasing ∨ s.memory.engine = .programming →
      exec (.abortRewrite o) s =
        .next (answered o 0x2C (answerDone
          (((stopPhase s).setEngine .aborting).setSuspendRequest false)))) ∧
    (s.memory.engine = .eraseSuspended ∨ s.memory.engine = .programSuspended →
      exec (.abortRewrite o) s =
        .next (answered o 0x2C (answerDone
          (countStalls (((stopPhase s).setEngine .aborting).setSuspendRequest false)))))

/-- Law 12 and R66, R71: whatever the command, the Staging Buffer does not change while a rewrite is in
hand, and is empty once that rewrite has ended. -/
def Obligations.StagingIsFrozenDuringARewrite : Prop :=
  ∀ (c : Instr) (s t : State), exec c s = .next t → s.memory.engine ≠ .idle →
    (t.memory.engine ≠ .idle → t.memory.staging = s.memory.staging) ∧
    (t.memory.engine = .idle → t.memory.staging = { header := none, slots := [] })

/-! ### Queries and CLEAR -/

/-- R60, R63, R76, R173, R178 and spec/12: what each query carries, at what size and byte by byte, what its
reply releases, and the parts, pages, ids and segments refused. The rewrite-in-progress mark of an entry is
set while the engine is not IDLE and the id is the old or the new one of the rewrite record. Addressed
queries only: a broadcast one leaves no trace. The values that stand for an absent item are in part the
model's reading (log 20), and so is that a difference beyond 64 bits saturates (log 21). -/
def Obligations.QueriesCarryTheirParts : Prop :=
  (∀ (s : State) (axis page part table : Byte) (segment : BitVec 16) (i : AxisIdx) (a : Axis),
     Takes .addressed s → Names axis i → a = s.axis i →
     ∀ page' part' : Nat, page' = page.toNat → part' = part.toNat →
     (∀ data, (page' = 0 ∧ part' = 0 ∧ data = statusUnit s) ∨
         (page' = 0 ∧ part' = 1 ∧ data = statusQueues s) ∨
         (page' = 1 ∧ part' = 0 ∧ data = statusMemory s) →
       exec (.statusQuery .addressed page part) s =
         .next (answered .addressed 0x30 { outcome := .done, data := data, state := s })) ∧
     (1 < page' ∨ (page' = 0 ∧ 1 < part') ∨ (page' = 1 ∧ 0 < part') →
       exec (.statusQuery .addressed page part) s =
         .next (answered .addressed 0x30 (answerRefused .outOfRange s))) ∧
     (∀ data b, (page' = 0 ∧ part' = 0 ∧ data = axisMotion a ∧ b = { a with late := false }) ∨
         (page' = 0 ∧ part' = 1 ∧ data = axisHead a ∧ b = a) ∨
         (page' = 0 ∧ part' = 2 ∧ data = axisPair a ∧ b = a) ∨
         (page' = 0 ∧ part' = 3 ∧ data = motionField a.motion ∧ b = a) ∨
         (page' = 1 ∧ part' = 0 ∧ data = axisSense a ∧ b = a) ∨
         (page' = 1 ∧ part' = 1 ∧ data = axisCapture a.encoder.capture ∧
           b =
             { a with
               encoder :=
                 { a.encoder with
                   capture := { a.encoder.capture with pending := false, missed := 0 } } }) ∨
         (page' = 1 ∧ part' = 2 ∧ data = axisHoming a.homing ∧ b = a) ∨
         (page' = 1 ∧ part' = 3 ∧ data = senseField a.sense ∧ b = a) →
       exec (.axisQuery .addressed axis page part) s =
         .next (answered .addressed 0x31
           { outcome := .done, data := data, state := s.setAxis i b })) ∧
     (1 < page' ∨ 3 < part' →
       exec (.axisQuery .addressed axis page part) s =
         .next (answered .addressed 0x31 (answerRefused .outOfRange s))) ∧
     (∀ id : TableId, table.toNat = id.val →
       (part' = 0 →
         exec (.tableQuery .addressed table part) s =
           .next (answered .addressed 0x32
             { outcome := .done, data := tableEntry (s.memory.concerns id) (s.entry id)
               state := s })) ∧
       (part' = 1 →
         exec (.tableQuery .addressed table part) s =
           .next (answered .addressed 0x32
             { outcome := .done, data := tableSegments (s.entry id).segments, state := s }))) ∧
     (63 < table.toNat ∨ 1 < part' →
       exec (.tableQuery .addressed table part) s =
         .next (answered .addressed 0x32 (answerRefused .outOfRange s))) ∧
     (segment.toNat < 256 →
       exec (.segmentQuery .addressed segment) s =
         .next (answered .addressed 0x33
           { outcome := .done, data := segmentField s.memory (s.memory.record segment.toNat)
             state := s })) ∧
     (256 ≤ segment.toNat →
       exec (.segmentQuery .addressed segment) s =
         .next (answered .addressed 0x33 (answerRefused .outOfRange s)))) ∧
  (∀ (m : TableMemory) (id : TableId), m.concerns id = true ↔
     m.engine ≠ .idle ∧ ∃ r, m.rewrite = some r ∧ (r.oldTable = some id ∨ r.newTable = some id)) ∧
  (∀ (s : State) (a : Axis) (e : DirEntry) (inRewrite : Bool) (segments : List (Nat × Nat))
     (t : TableMemory) (r : SegmentRecord),
     (statusUnit s).length = 53 ∧ (statusQueues s).length = 49 ∧ (statusMemory s).length = 20 ∧
     (axisMotion a).length = 54 ∧ (axisHead a).length = 27 ∧ (axisPair a).length = 38 ∧
     (motionField a.motion).length = 34 ∧ (axisSense a).length = 46 ∧
     (axisCapture a.encoder.capture).length = 36 ∧ (axisHoming a.homing).length = 41 ∧
     (senseField a.sense).length = 34 ∧ (tableEntry inRewrite e).length = 42 ∧
     (tableSegments segments).length = 33 ∧ (segmentField t r).length = 39) ∧
  (∀ s : State,
     statusUnit s =
       [codeIn [.scanning, .complete] s.memory.startUp, BitVec.ofNat 8 s.link.ownAddress.toNat,
         codeIn [.stopped, .running] s.clock.state,
         BitVec.ofNat 8 (bitsByte [s.clock.skyLimit, s.clock.softHold, s.clock.holdLine.active,
           s.clock.haltLine.active, s.clock.softHold || s.clock.holdLine.active])] ++
       beBytes 8 s.clock.skyLane ++ beBytes 8 s.clock.showLane ++ beBytes 8 s.clock.rate ++
       (match s.clock.ramp with
         | none => List.replicate 21 0
         | some r =>
           1 :: (beBytes 8 r.startRate ++ beBytes 8 r.endRate ++ beBytes 2 r.length ++
             beBytes 2 r.taken)) ++
       [codeIn [.serve, .defer] s.clock.settings.policy,
         codeIn [false, true] s.clock.settings.showHaltsOnHold,
         BitVec.ofNat 8 s.clock.settings.holdWindow, BitVec.ofNat 8 s.clock.settings.haltWindow] ∧
     statusQueues s =
       maybe64 s.clock.pendingSky ++ maybe64 s.clock.pendingShow ++
       BitVec.ofNat 8 (bitsByte [s.link.attention.rewriteEnd, s.link.attention.cueFailed,
         s.link.attention.linkError, s.link.attention.skyLimit]) ::
       (beBytes 2 s.link.attention.axisFault.toNat ++ beBytes 2 s.link.attention.capture.toNat ++
       beBytes 2 s.link.attention.limit.toNat ++ beBytes 2 s.link.framingErrors ++
       beBytes 2 s.link.checkErrors ++ beBytes 2 s.link.requestOverruns ++
       beBytes 2 s.link.returnOverruns ++
       [BitVec.ofNat 8 (s.link.replies.length + 1), BitVec.ofNat 8 s.cues.records.length] ++
       (match s.cues.records with
         | [] => List.replicate 9 0
         | c :: _ => beBytes 8 c.time ++ [c.tag]) ++
       (match s.cues.lastFailure with
         | none => [0, 0, 0, 0]
         | some f => [1, f.tag, f.kind, f.outcome.code]) ++
       [BitVec.ofNat 8 s.cues.failures]) ∧
     statusMemory s =
       codeIn [.idle, .erasing, .eraseSuspended, .programming, .programSuspended, .aborting]
         s.memory.engine ::
       ((match s.memory.rewrite with
         | none => List.replicate 6 0
         | some r =>
           1 :: (beBytes 2 r.segment ++
             [codeIn [false, true] r.eraseOnly,
               (match r.oldTable with | none => 0xFF | some id => BitVec.ofNat 8 id),
               (match r.newTable with | none => 0xFF | some id => BitVec.ofNat 8 id)])) ++
       (match s.memory.lastOutcome with
         | none => [0, 0xFF, 0xFF]
         | some (x, segment) =>
           (codeIn [.verified, .failed, .aborted, .erased] x + 1) :: beBytes 2 segment) ++
       (match s.memory.staging.header with
         | none => [0, 0xFF, 0, 0, 0xFF]
         | some h =>
           [1, BitVec.ofNat 8 h.table, BitVec.ofNat 8 h.sequence, BitVec.ofNat 8 h.count,
             codeIn [false, true] h.final]) ++
       [BitVec.ofNat 8 s.memory.staging.slots.length,
         codeIn [false, true] (decide (s.memory.engine ≠ .idle)),
         codeIn [.serve, .defer] s.clock.settings.policy] ++
       beBytes 2 s.memory.stalls)) ∧
  [ResultCode.done, .doneClamped, .unknownKind, .badLength, .badAxis, .outOfRange, .wrongState,
     .notReady, .halted, .queueFull, .notCueable, .notHomed, .couplingOrder, .tableUnusable,
     .stagingBusy, .rewriteBusy, .segInUse, .incomplete, .disorder].map ResultCode.code =
    [0x00, 0x01, 0x10, 0x11, 0x12, 0x13, 0x14, 0x15, 0x16, 0x17, 0x18, 0x19, 0x1A, 0x1B, 0x1C, 0x1D,
     0x1E, 0x1F, 0x20] ∧
  (∀ a : Axis,
     axisMotion a =
       [codeIn [.off, .ready, .homing, .tracking, .frozen, .limited, .faulted] a.state,
         (match a.remembered with
           | none => 0xFF | some .ready => 1 | some .tracking => 3 | some .frozen => 4),
         (match a.activeLimit with | none => 0xFF | some .limPos => 0 | some .limNeg => 1),
         codeIn [false, true] a.homed,
         BitVec.ofNat 8 (bitsByte [a.offTable, a.stale, a.late, a.clamped, a.lag, a.sourceHeld,
           decide (a.lastDir = .negative)]),
         (match a.law with
           | .none => 0 | .linear _ _ _ => 1 | .table _ _ => 2 | .coupled _ _ _ _ => 3 | .cued => 4),
         BitVec.ofNat 8 a.moves.length] ++
       beBytes 8 a.p ++ beBytes 8 a.w ++ beBytes 8 a.m ++ beBytes 8 a.c ++ beBytes 2 a.v ++
       beBytes 2 a.lp ++ [codeIn [.none, .follow, .homeFail, .drive, .halt] a.fault.cause] ++
       beBytes 8 a.fault.time ++
       [codeIn [.off, .ready, .homing, .tracking, .frozen, .limited, .faulted] a.fault.stateAt,
         BitVec.ofNat 8 a.fault.further] ∧
     axisHead a =
       (match a.headStart with
         | none => List.replicate 17 0
         | some h => 1 :: (beBytes 8 h.time ++ beBytes 8 h.position)) ++
       [(match a.bracket with | .none => 0 | .pair _ _ => 1 | .before => 2 | .after => 3),
         codeIn [.idle, .waiting, .granted, .discarding] a.fetchState] ++
       beBytes 8 a.wanted ∧
     (∀ low high, a.bracket = .pair low high →
       axisPair a =
         beBytes 2 low.index ++ beBytes 8 low.knot.time ++ beBytes 8 low.knot.angle ++
         [BitVec.ofNat 8 low.segment] ++
         beBytes 2 high.index ++ beBytes 8 high.knot.time ++ beBytes 8 high.knot.angle ++
         [BitVec.ofNat 8 high.segment]) ∧
     ((∀ low high, a.bracket ≠ .pair low high) →
       axisPair a = List.replicate 18 0 ++ [0xFF] ++ List.replicate 18 0 ++ [0xFF]) ∧
     axisSense a =
       beBytes 8 a.encoder.count ++ beBytes 8 a.encoder.offset ++ maybe64 a.measured ++
       (match a.measured with
         | none => List.replicate 8 0
         | some x => beBytes 8 (max (-2 ^ 63) (min (2 ^ 63 - 1) (a.c - x)))) ++
       [BitVec.ofNat 8 a.encoder.glitches] ++
       [a.filters.home, a.filters.limPos, a.filters.limNeg, a.filters.drvFault].map
         (fun f => codeIn [none, some .low, some .high] f.accepted) ++
       [BitVec.ofNat 8 (bitsByte [a.inputActive .home, a.inputActive .limPos, a.inputActive .limNeg,
           a.inputActive .drvFault]),
         codeIn [.active, .parked, .startUp] a.output.mode,
         BitVec.ofNat 8 (bitsByte [a.output.parkPending, a.output.enable, a.output.brake,
           decide (a.output.dir = .negative), a.output.window.isSome])] ++
       (match a.output.window with
         | none => [0xFF, 0, 0, 0, 0]
         | some w =>
           codeIn [.positive, .negative] w.sense :: (beBytes 2 w.count ++ beBytes 2 w.begun)) ∧
     axisHoming a.homing =
       [codeIn [.none, .backOff, .seekSwitch, .seekIndex, .stopping] a.homing.phase,
         codeIn [false, true] a.homing.paused] ++
       beBytes 2 a.homing.speed ++ beBytes 8 a.homing.start ++ maybe64 a.homing.switchPoint ++
       maybe64 a.homing.reference ++
       (match a.homing.lastEnd with
         | none => [0, 0xFF]
         | some (x, phase) =>
           [codeIn [.completed, .failed, .ended] x + 1,
             codeIn [.none, .backOff, .seekSwitch, .seekIndex, .stopping] phase]) ++
       maybe64 (a.homing.distance.map (fun x => max (-2 ^ 63) (min (2 ^ 63 - 1) x)))) ∧
  (∀ (k : IndexCapture) (g : MotionConfig) (h : SenseConfig) (one : Option Capture → List Byte),
     (∀ x, one (some x) = 1 :: (beBytes 8 x.count ++ beBytes 8 x.time)) →
     one none = List.replicate 17 0 →
     axisCapture k =
       one k.current ++ one k.previous ++ [codeIn [false, true] k.pending, BitVec.ofNat 8 k.missed] ∧
     motionField g =
       [codeIn [.wrapping, .bounded] g.kind] ++ beBytes 4 g.steps ++ [codeIn [.sky, .showing] g.lane] ++
       beBytes 2 g.vmax ++ beBytes 2 g.amax ++ beBytes 2 g.backlash ++ beBytes 8 g.softMin ++
       beBytes 8 g.softMax ++ beBytes 4 g.lagLimit ++
       [codeIn [.follow, .freeze] g.holdResponse, codeIn [.holdTorque, .release, .brake] g.parkMode] ∧
     senseField h =
       [codeIn [.none, .x1, .x2, .x4] h.encoderMode, codeIn [false, true] h.invert] ++
       beBytes 4 h.counts ++ beBytes 4 h.followLimit ++
       [codeIn [.none, .switch, .switchIndex] h.homeMode,
         codeIn [.positive, .negative] h.homeDirection] ++
       beBytes 2 h.homeSpeed ++ beBytes 4 h.travelLimit ++ beBytes 8 h.homeOffset ++
       [h.activeLevels.home, h.activeLevels.limPos, h.activeLevels.limNeg,
         h.activeLevels.drvFault].map (codeIn [.low, .high]) ++
       [h.windows.home, h.windows.limPos, h.windows.limNeg, h.windows.drvFault].map (BitVec.ofNat 8)) ∧
  ∀ (e : DirEntry) (inRewrite : Bool) (segments : List (Nat × Nat)) (t : TableMemory)
     (header : Header) (first last : Knot) (knot : Knot → List Byte),
     (∀ k, knot k = beBytes 8 k.time ++ beBytes 8 k.angle) →
     tableEntry inRewrite e =
       [codeIn [.absent, .conflicted, .part, .disordered, .complete] e.state] ++ beBytes 2 e.claims ++
       [codeIn [false, true] inRewrite] ++ beBytes 2 e.total ++
       (match e.ends with
         | none => List.replicate 16 0 ++ [0xFF] ++ List.replicate 16 0 ++ [0xFF]
         | some (x, y) =>
           knot x.knot ++ [BitVec.ofNat 8 x.segment] ++ knot y.knot ++ [BitVec.ofNat 8 y.segment]) ++
       beBytes 2 e.bound.toNat ∧
     (segments.length ≤ 16 →
       tableSegments segments =
         BitVec.ofNat 8 segments.length ::
           (segments.flatMap (fun x => [BitVec.ofNat 8 x.1, BitVec.ofNat 8 x.2]) ++
             (List.replicate (16 - segments.length) [0xFF, 0]).flatten)) ∧
     segmentField t .blank =
       [0, 0xFF, 0, 0, 0xFF] ++ List.replicate 32 0 ++ [0xFF, 0xFF] ∧
     segmentField t .torn =
       [2, 0xFF, 0, 0, 0xFF] ++ List.replicate 32 0 ++ [0xFF, 0xFF] ∧
     segmentField t (.valid header first last) =
       [1, BitVec.ofNat 8 header.table, BitVec.ofNat 8 header.sequence, BitVec.ofNat 8 header.count,
         codeIn [false, true] header.final] ++ knot first ++ knot last ++ [0xFF, 0xFF] ∧
     ∀ r, t.rewrite = some r →
       segmentField t .busy =
         [3, 0xFF, 0, 0, 0xFF] ++ List.replicate 32 0 ++
         [codeIn [.idle, .erasing, .eraseSuspended, .programming, .programSuspended, .aborting]
           t.engine, codeIn [false, true] r.eraseOnly]

/-- R10, R172: CLEAR removes the causes and zeroes the counts it names, changes no record, and answers
with the Attention Set as it then stands. Bits 0 to 3 of the unit causes are REWRITE_END, CUE_FAILED,
LINK_ERROR and SKY_LIMIT; bits 0 to 5 of the counters the framing, check, request overrun and return
overrun counts, the Table Stall count and the Cue Failure count (spec/12, Bit sets). R171: a cause that is
raised joins the Attention Set, every other cause and the rest of the unit stay as they are, and the Attention
line is asserted exactly while some cause stands. -/
def Obligations.ClearRemovesWhatItNames : Prop :=
  (∀ (s t : State) (cause : Cause), t = s.raise cause →
    t = { s with link := { s.link with attention := t.link.attention } } ∧
    (t.link.attention.rewriteEnd = true ↔
      s.link.attention.rewriteEnd = true ∨ cause = .rewriteEnd) ∧
    (t.link.attention.cueFailed = true ↔ s.link.attention.cueFailed = true ∨ cause = .cueFailed) ∧
    (t.link.attention.linkError = true ↔ s.link.attention.linkError = true ∨ cause = .linkError) ∧
    (t.link.attention.skyLimit = true ↔ s.link.attention.skyLimit = true ∨ cause = .skyLimit) ∧
    ∀ i,
      (inSet t.link.attention.axisFault i = true ↔
        inSet s.link.attention.axisFault i = true ∨ cause = .axisFault i) ∧
      (inSet t.link.attention.capture i = true ↔
        inSet s.link.attention.capture i = true ∨ cause = .capture i) ∧
      (inSet t.link.attention.limit i = true ↔
        inSet s.link.attention.limit i = true ∨ cause = .limit i)) ∧
  (∀ s : State, s.attentionLine = true ↔
    s.link.attention.rewriteEnd = true ∨ s.link.attention.cueFailed = true ∨
      s.link.attention.linkError = true ∨ s.link.attention.skyLimit = true ∨
      ∃ i, inSet s.link.attention.axisFault i = true ∨ inSet s.link.attention.capture i = true ∨
        inSet s.link.attention.limit i = true) ∧
  (∀ x : Attention, attentionField x =
    BitVec.ofNat 8 (bitsByte [x.rewriteEnd, x.cueFailed, x.linkError, x.skyLimit]) ::
      (beBytes 2 x.axisFault.toNat ++ beBytes 2 x.capture.toNat ++ beBytes 2 x.limit.toNat)) ∧
  ∀ (o : Origin) (s : State) (f : ClearFields), Takes o s →
    ∃ t : State,
      exec (.clear o f) s =
        .next (answered o 0x38
          { outcome := .done, data := attentionField t.link.attention, state := t }) ∧
      t.link.attention.rewriteEnd = (s.link.attention.rewriteEnd && !f.unitCauses.getLsbD 0) ∧
      t.link.attention.cueFailed = (s.link.attention.cueFailed && !f.unitCauses.getLsbD 1) ∧
      t.link.attention.linkError = (s.link.attention.linkError && !f.unitCauses.getLsbD 2) ∧
      t.link.attention.skyLimit = (s.link.attention.skyLimit && !f.unitCauses.getLsbD 3) ∧
      (∀ i,
        inSet t.link.attention.axisFault i =
          (inSet s.link.attention.axisFault i && !inSet f.axisFault i) ∧
        inSet t.link.attention.capture i =
          (inSet s.link.attention.capture i && !inSet f.capture i) ∧
        inSet t.link.attention.limit i = (inSet s.link.attention.limit i && !inSet f.limit i) ∧
        t.axis i =
          { s.axis i with
            encoder :=
              { (s.axis i).encoder with
                glitches := if inSet f.glitch i then 0 else (s.axis i).encoder.glitches } }) ∧
      t.clock =
        { s.clock with skyLimit := s.clock.skyLimit && !f.unitCauses.getLsbD 3 } ∧
      t.link =
        { s.link with
          attention := t.link.attention
          framingErrors := if f.counters.getLsbD 0 then 0 else s.link.framingErrors
          checkErrors := if f.counters.getLsbD 1 then 0 else s.link.checkErrors
          requestOverruns := if f.counters.getLsbD 2 then 0 else s.link.requestOverruns
          returnOverruns := if f.counters.getLsbD 3 then 0 else s.link.returnOverruns } ∧
      t.memory =
        { s.memory with stalls := if f.counters.getLsbD 4 then 0 else s.memory.stalls } ∧
      t.cues =
        { s.cues with failures := if f.counters.getLsbD 5 then 0 else s.cues.failures } ∧
      t.port = s.port ∧ t.power = s.power ∧ t.work = s.work ∧ t.draws = s.draws ∧
      t.pending = s.pending

/-! ### The show link -/

/-- R161, R162, R175, R176: SHOW_IN_CHARACTER repeats the character whenever there is power; out of reset
a marked one begins a frame and cuts off a taken one in hand, another joins the frame in hand, or is a
framing error where there is none. -/
def Obligations.ForwardCharactersAreRepeatedAndAssembled : Prop :=
  ∀ (c : LinkChar) (s shown : State), shown = { s with link := { s.link with showOut := some c } } →
    (s.power = .off → exec (.showInCharacter c) s = .next s) ∧
    (s.power = .inReset → exec (.showInCharacter c) s = .next shown) ∧
    (s.power = .on →
      (c.mark = true → ∀ taken : Bool,
        (taken = true ↔ c.data = 31 ∨
          (s.link.ownAddress ≠ 0 ∧ c.data.toNat = s.link.ownAddress.toNat)) →
        ∀ begun : FrameIn,
          begun =
            { address := c.data, taken := taken, chars := if taken then [c.data] else []
              bad := !c.goodStop } →
          ((s.link.frame = none ∨ ∃ f, s.link.frame = some f ∧ f.taken = false) →
            exec (.showInCharacter c) s =
              .next { shown with link := { shown.link with frame := some begun } }) ∧
          (∀ f, s.link.frame = some f → f.taken = true →
            exec (.showInCharacter c) s =
              .next { shown with
                link :=
                  { shown.link with
                    frame := some begun, framingErrors := min 65535 (s.link.framingErrors + 1)
                    attention := { s.link.attention with linkError := true } } })) ∧
      (c.mark = false → s.link.frame = none →
        exec (.showInCharacter c) s =
          .next { shown with
            link :=
              { shown.link with
                framingErrors := min 65535 (s.link.framingErrors + 1)
                attention := { s.link.attention with linkError := true } } }) ∧
      ∀ f, c.mark = false → s.link.frame = some f →
        exec (.showInCharacter c) s =
          .next { shown with
            link :=
              { shown.link with
                frame := some
                  (if f.taken = false then f
                  else if 63 ≤ f.chars.length then { f with bad := true }
                  else
                    { f with
                      chars := f.chars ++ [c.data], bad := f.bad || !c.goodStop }) } })

/-- R164, R165, R176: FRAME_END. A taken frame of good form whose check agrees arrives as a request, a
broadcast one when its address is 31; a form that fails is a framing error and a check that disagrees a
check error; a frame not taken leaves no trace. -/
def Obligations.FrameEndsAreTestedInOrder : Prop :=
  (∀ (straps : BitVec 5) (s : State), s.power ≠ .on ∨ s.link.frame = none →
    exec (.frameEnd straps) s = .next s) ∧
  ∀ (straps : BitVec 5) (s ended : State) (f : FrameIn), s.power = .on → s.link.frame = some f →
    ended = { s with link := { s.link with frame := none } } →
    (f.taken = false → exec (.frameEnd straps) s = .next ended) ∧
    (f.taken = true →
      (f.bad = true ∨ f.chars.length < 5 ∨
          (∀ length, f.chars[2]? = some length →
            58 < length.toNat ∨ f.chars.length ≠ 5 + length.toNat) →
        exec (.frameEnd straps) s =
          .next { ended with
            link :=
              { ended.link with
                framingErrors := min 65535 (s.link.framingErrors + 1)
                attention := { s.link.attention with linkError := true } } }) ∧
      ∀ (address kind length high low : Byte) (payload : List Byte), f.bad = false →
        f.chars = [address, kind, length] ++ payload ++ [high, low] → length.toNat ≤ 58 →
        payload.length = length.toNat →
        ((high ++ low : BitVec 16) ≠ crc16 ([kind, length] ++ payload) →
          exec (.frameEnd straps) s =
            .next { ended with
              link :=
                { ended.link with
                  checkErrors := min 65535 (s.link.checkErrors + 1)
                  attention := { s.link.attention with linkError := true } } }) ∧
        ((high ++ low : BitVec 16) = crc16 ([kind, length] ++ payload) →
          (f.address ≠ 31 →
            exec (.frameEnd straps) s =
              .next (takeRequest .addressed kind (decodeRequest straps kind payload) ended)) ∧
          (f.address = 31 →
            exec (.frameEnd straps) s =
              .next (takeRequest .broadcast kind (decodeRequest straps kind payload) ended))))

/-- R176, R177 and spec/12: one shift of the check register, the check of the digits one to nine, and a few
payloads written out with the requests they stand for. -/
def Obligations.WorkedWordsAreReadRight : Prop :=
  ((∀ r : BitVec 16,
     crcShift r = if r.getLsbD 15 then (r <<< 1) ^^^ 0x1021#16 else r <<< 1) ∧
   crc16 [0x31, 0x32, 0x33, 0x34, 0x35, 0x36, 0x37, 0x38, 0x39] = 0x29B1) ∧
  (decodeRequest 0 0x18 [5, 0, 0, 0, 0, 0, 0x0F, 0x42, 0x40, 0, 0, 0, 0, 0, 0, 0x36, 0xB0] =
       some (.cueable (.move 5 1000000 14000)) ∧
     decodeRequest 0 0x12 [7, 3, 3, 0xFF, 0xFF, 0xFF, 0xFB, 0, 0, 0, 4, 0, 0, 0, 0, 0, 0, 0x27, 0x10] =
       some (.cueable (.axisLaw 7 3 (.coupled 3 (-5) 4 10000))) ∧
     decodeRequest 0 0x2B [0, 120, 1] = some (.commit 120 1) ∧
     decodeRequest 0 0x32 [9, 1] = some (.tableQuery 9 1) ∧
     decodeRequest 0 0x32 [9] = none)

/-- R168, R169, R175: what becomes of a character at Return In, by the relay state and the buffer, the frame
end mark that an idle Return In places, and how GAP_END and BUFFERED_CHARACTER_SENT drain the buffer, with a
GAP after each mark. A marked character ends the dropping of an earlier frame (the model's reading, log
18). -/
def Obligations.ReturnCharactersAreRelayedOrBuffered : Prop :=
  (∀ k : LinkPort, k.buffered =
     (k.returnBuffer.filter (fun x => match x with | .char _ => true | .endMark => false)).length) ∧
  (∀ (c : LinkChar) (s : State),
     (s.power = .off →
       exec (.returnInCharacter c) s = .next s ∧ exec .returnInIdle s = .next s) ∧
     (s.power = .inReset →
       exec (.returnInCharacter c) s =
         .next { s with link := { s.link with returnIdle := false, returnOut := [c] } } ∧
       exec .returnInIdle s = .next { s with link := { s.link with returnIdle := true } }) ∧
     (s.power = .on →
       (s.link.returnDropping = true → c.mark = false →
         exec (.returnInCharacter c) s =
           .next { s with link := { s.link with returnIdle := false } }) ∧
       (s.link.returnDropping = false ∨ c.mark = true →
         (s.link.relay = .direct → s.link.returnBuffer = [] →
           exec (.returnInCharacter c) s =
             .next { s with
               link :=
                 { s.link with returnIdle := false, returnDropping := false, returnOut := [c] } }) ∧
         (s.link.relay ≠ .direct ∨ s.link.returnBuffer ≠ [] →
           (s.link.buffered < 72 →
             exec (.returnInCharacter c) s =
               .next { s with
                 link :=
                   { s.link with
                     returnIdle := false, returnDropping := false
                     returnBuffer := s.link.returnBuffer ++ [.char c] } }) ∧
           (72 ≤ s.link.buffered →
             exec (.returnInCharacter c) s =
               .next { s with
                 link :=
                   { s.link with
                     returnIdle := false, returnDropping := true
                     returnOverruns := min 65535 (s.link.returnOverruns + 1)
                     attention := { s.link.attention with linkError := true } } }))) ∧
       (s.link.returnIdle = true → exec .returnInIdle s = .next s) ∧
       (s.link.returnIdle = false →
         (∀ front d, s.link.returnBuffer = front ++ [.char d] →
           exec .returnInIdle s =
             .next { s with
               link :=
                 { s.link with
                   returnIdle := true, returnDropping := false
                   returnBuffer := front ++ [.char d, .endMark] } }) ∧
         (s.link.returnBuffer = [] ∨ (∃ front, s.link.returnBuffer = front ++ [.endMark]) →
           exec .returnInIdle s =
             .next { s with
               link := { s.link with returnIdle := true, returnDropping := false } })))) ∧
  (∀ s : State, s.power = .on →
     (s.link.relay = .gap →
       ((∃ c rest, s.link.returnBuffer = .char c :: rest) →
         exec .gapEnd s = .next { s with link := { s.link with relay := .buffered } }) ∧
       (s.link.returnBuffer = [] →
         exec .gapEnd s = .next { s with link := { s.link with relay := .direct } })) ∧
     (s.link.relay ≠ .gap → exec .gapEnd s = .next s) ∧
     (s.link.relay = .buffered →
       (∀ c rest, s.link.returnBuffer = .char c :: .endMark :: rest →
         exec .bufferedCharacterSent s =
           .next { s with
             link := { s.link with returnOut := [c], returnBuffer := rest, relay := .gap } }) ∧
       (∀ c d rest, s.link.returnBuffer = .char c :: .char d :: rest →
         exec .bufferedCharacterSent s =
           .next { s with
             link := { s.link with returnOut := [c], returnBuffer := .char d :: rest } }) ∧
       (∀ c, s.link.returnBuffer = [.char c] →
         exec .bufferedCharacterSent s =
           .next { s with
             link := { s.link with returnOut := [c], returnBuffer := [], relay := .direct } })) ∧
     (s.link.relay ≠ .buffered → exec .bufferedCharacterSent s = .next s))

/-- R167, R170, R174: when an own reply starts, what it puts on Return Out, how its end takes it from the
queue, and that the reply of an addressed UNIT_RESET brings the reset as it ends, as a broadcast one brings
it. -/
def Obligations.OwnRepliesStartAndEnd : Prop :=
  (∀ s : State, s.power = .on →
    (s.link.replies ≠ [] → s.link.relay = .direct → s.link.returnBuffer = [] →
      s.link.returnIdle = true →
      exec .ownReplyStart s =
        .next { s with link := { s.link with sending := true, relay := .ownReply } }) ∧
    (s.link.replies = [] ∨ s.link.relay ≠ .direct ∨ s.link.returnBuffer ≠ [] ∨
        s.link.returnIdle = false →
      exec .ownReplyStart s = .next s) ∧
    (s.link.sending = false → ∀ straps, exec (.ownReplyEnd straps) s = .next s)) ∧
  (∀ (straps : BitVec 5) (s sent : State) (r : Reply) (rest : List Reply), s.power = .on →
    s.link.sending = true → s.link.replies = r :: rest →
    sent =
      { s with
        link :=
          { s.link with replies := rest, sending := false, relay := .gap, returnOut := r.frame } } →
    (s.link.resetPending = false ∨ rest ≠ [] →
      exec (.ownReplyEnd straps) s = .next sent) ∧
    (s.link.resetPending = true → rest = [] →
      exec (.ownReplyEnd straps) s = .next (unitReset straps sent))) ∧
  (∀ (straps : BitVec 5) (s : State),
    unitReset straps s =
      unitReset straps { s with link := { s.link with resetPending := false } } ∧
    (Takes .broadcast s → exec (.unitReset .broadcast straps) s = .next (unitReset straps s))) ∧
  ∀ (r : Reply) (check : BitVec 16),
    check = crc16 ([0x40, BitVec.ofNat 8 (r.data.length + 2), r.kind, r.outcome.code] ++ r.data) →
    r.frame.map LinkChar.data =
      [r.address.zeroExtend 8, 0x40, BitVec.ofNat 8 (r.data.length + 2), r.kind, r.outcome.code] ++
        r.data ++ [check.extractLsb' 8 8, check.extractLsb' 0 8] ∧
    r.frame.map LinkChar.mark = true :: List.replicate (r.data.length + 6) false

/-! ### Encodings -/

/-- spec/12, R165, R177: every request that a frame can carry is read back from its kind code and its
payload, with every operand; a UNIT_RESET takes the straps it is read with, and its payload is empty. -/
def Obligations.RequestsAreReadBackFromTheirBytes : Prop :=
  ∀ (straps : BitVec 5) (r : Request), r.wf = true →
    decodeRequest straps r.kind r.payload =
      some (match r with
        | .unitReset _ => .unitReset straps
        | r => r) ∧
    requestKind r.kind = true ∧ r.payload.length ≤ 58

/-! ### Laws of the device, kept by every step -/

/-- R1, laws 1 to 3 (R81, R86), R90: every step keeps every axis within its lash, its Vmax and 500 steps, and
at rest in OFF, in FAULTED and from an entry to LIMITED, a DISABLE or a fault to its next turn. -/
def Obligations.EveryStepKeepsTheMotionLaws : Prop := KeptByStep (EveryAxis Axis.motionSound)

/-- R1, law 4, with R33 (R37, R38): every step keeps M of every homed BOUNDED axis within its soft limits
and every wrap base a multiple of a revolution, 0 when BOUNDED. -/
def Obligations.EveryStepKeepsTheSoftLimits : Prop :=
  KeptByStep (EveryAxis (fun a => a.clampSound ∧ a.wrapSound))

/-- R1, laws 5 to 7 (R21, R27, R152), R19, R20, and R161, R167 to R170: every step keeps the Move Queues and
the Cue Queue within their sizes, the Cue Queue in order, every COUPLED law on a lower axis, the queues and
counts of the Link Port within their bounds, and the work in hand in ascending order of the axes over the
lanes its update settled. -/
def Obligations.EveryStepKeepsTheQueuesAndCouplings : Prop :=
  KeptByStep (EveryAxis Axis.movesSound) ∧ KeptByStep CueQueueSound ∧ KeptByStep CouplingSound ∧
    KeptByStep LinkSound ∧ KeptByStep WorkSound

/-- R1, law 9 (R45, R49), R50, R56: every step keeps each axis's read at the port the one its fetch state
tells, and with it that no grant stays due: a read waits only while the port reads or the engine holds reads
up. -/
def Obligations.EveryStepKeepsOneReadPerAxis : Prop :=
  KeptByStep ReadsSound ∧ KeptByStep (fun s => ScanningSound s ∧ ReadsSound s ∧ GrantsSound s)

/-- R1, law 8, with what keeps it (R21, R57, R61, R62, R67), and R58: every step keeps Table Memory in its one
canonical form, a completion marker only over a header with all its knots, the Directory true to the records
and every table in use COMPLETE and outside every rewrite. -/
def Obligations.EveryStepKeepsTheTablesInUse : Prop :=
  KeptByStep MemorySound ∧ KeptByStep MarkerSound ∧ KeptByStep TablesSound

/-- R1: the invariants hold right after reset. -/
def Obligations.ResetStateMeetsTheLaws : Prop :=
  MemorySound State.reset ∧ EveryAxis Axis.motionSound State.reset ∧
    EveryAxis Axis.clampSound State.reset ∧ EveryAxis Axis.wrapSound State.reset ∧
    EveryAxis Axis.movesSound State.reset ∧ CueQueueSound State.reset ∧
    CouplingSound State.reset ∧ ReadsSound State.reset ∧ TablesSound State.reset ∧
    LinkSound State.reset ∧ MarkerSound State.reset ∧ WorkSound State.reset ∧
    GrantsSound State.reset

/-- R1, law 8: in a state of those invariants the table of every axis outside OFF is COMPLETE, and every
segment it lists is VALID and carries its id. -/
def Obligations.TablesInUseListOnlyValidSegments : Prop :=
  ∀ (s : State) (i : AxisIdx) (id : TableId), TablesSound s → (s.axis i).state ≠ .off →
    (s.axis i).law.tableId = some id →
    (s.entry id).state = .complete ∧ (s.entry id).segments ≠ [] ∧
    ∀ segment count, (segment, count) ∈ (s.entry id).segments →
      ∃ h first last, s.memory.record segment = .valid h first last ∧ h.table = id ∧
        h.count = count

end
end

