-- ==== Sys2Proof/Laws/Bytes.lean ====
section
/-! SUPPORT. The byte fields of replies, most significant byte first: the encodings of Encode.lean say the
same as `beBytes`. -/

namespace Sys2Proof.Machine

/-- Byte `k / 8` of a two's complement field is that byte of the number. -/
theorem extract_ofInt (w k : Nat) (h : k + 8 ≤ w) (x : Int) :
    (BitVec.ofInt w x).extractLsb' k 8 = BitVec.ofInt 8 (x / 2 ^ k) := by
  apply BitVec.eq_of_toNat_eq
  obtain ⟨m, rfl⟩ : ∃ m, w = k + 8 + m := ⟨w - (k + 8), by omega⟩
  have hw : (2 : Int) ^ (k + 8 + m) = 2 ^ k * (256 * 2 ^ m) := by ring
  have hp : (0 : Int) < 2 ^ k := by positivity
  have hmod : x % (2 ^ k * (256 * 2 ^ m)) / 2 ^ k % 256 = x / 2 ^ k % 256 := by
    have e : x % (2 ^ k * (256 * 2 ^ m)) =
        x + 2 ^ k * (256 * -(2 ^ m * (x / (2 ^ k * (256 * 2 ^ m))))) := by
      rw [Int.emod_def]; ring
    rw [e, Int.add_mul_ediv_left _ _ hp.ne', Int.add_mul_emod_self_left]
  have h1 : (0 : Int) ≤ x % (2 ^ k * (256 * 2 ^ m)) := Int.emod_nonneg _ (by positivity)
  simp only [BitVec.extractLsb'_toNat, BitVec.toNat_ofInt, Nat.shiftRight_eq_div_pow]
  push_cast
  apply Int.natCast_inj.mp
  rw [Int.toNat_of_nonneg (Int.emod_nonneg _ (by norm_num)), hw]
  push_cast
  rw [Int.toNat_of_nonneg h1]
  exact hmod

/-- A byte of a part of a field is a byte of the field. -/
theorem extract_extract {w : Nat} (x : BitVec w) (j n k : Nat) (h : k + 8 ≤ n) :
    (x.extractLsb' j n).extractLsb' k 8 = x.extractLsb' (j + k) 8 := by
  apply BitVec.eq_of_getLsbD_eq
  intro i hi
  have : k + i < n := by omega
  simp [hi, this, Nat.add_assoc]

/-- The eight bytes of a field. -/
theorem bytes64_ofInt (x : Int) : bytes64 (BitVec.ofInt 64 x) = beBytes 8 x := by
  simp [bytes64, bytes32, bytes16, extract_extract, extract_ofInt, beBytes, List.range_succ]

/-- The four bytes of a field. -/
theorem bytes32_ofInt (x : Int) : bytes32 (BitVec.ofInt 32 x) = beBytes 4 x := by
  simp [bytes32, bytes16, extract_extract, extract_ofInt, beBytes, List.range_succ]

/-- The two bytes of a field. -/
theorem bytes16_ofInt (x : Int) : bytes16 (BitVec.ofInt 16 x) = beBytes 2 x := by
  simp [bytes16, extract_ofInt, beBytes, List.range_succ]

/-- A signed eight-byte field. -/
theorem signed64_eq (x : Int) : signed64 x = beBytes 8 x := bytes64_ofInt x

/-- A signed two-byte field. -/
theorem signed16_eq (x : Int) : signed16 x = beBytes 2 x := bytes16_ofInt x

/-- An unsigned two-byte field. -/
theorem field16_eq (n : Nat) : field16 n = beBytes 2 n := by
  rw [← bytes16_ofInt, BitVec.ofInt_natCast]; rfl

/-- An unsigned four-byte field. -/
theorem field32_eq (n : Nat) : field32 n = beBytes 4 n := by
  rw [← bytes32_ofInt, BitVec.ofInt_natCast]; rfl

/-- An axis set. -/
theorem bytes16_eq (x : BitVec 16) : bytes16 x = beBytes 2 x.toNat := by
  rw [← bytes16_ofInt, BitVec.ofInt_natCast]; simp

/-- An optional eight-byte value. -/
theorem optional64_eq (x : Option Int) : optional64 x = maybe64 x := by
  cases x with
  | none => rfl
  | some x => simp [optional64, maybe64, signed64_eq]

end Sys2Proof.Machine
end

