-- ==== Sys2Proof/Laws/State.lean ====
section
/-! SUPPORT. One lemma for each field and each update of the state, and the reading of an axis after an
update. -/

namespace Sys2Proof.Machine

variable (s : State)

@[simp] theorem State.setAxis_power (i : AxisIdx) (a : Axis) : (s.setAxis i a).power = s.power := rfl
@[simp] theorem State.setAxis_clock (i : AxisIdx) (a : Axis) : (s.setAxis i a).clock = s.clock := rfl
@[simp] theorem State.setAxis_axes (i : AxisIdx) (a : Axis) : (s.setAxis i a).axes = s.axes.set i a := rfl
@[simp] theorem State.setAxis_cues (i : AxisIdx) (a : Axis) : (s.setAxis i a).cues = s.cues := rfl
@[simp] theorem State.setAxis_memory (i : AxisIdx) (a : Axis) : (s.setAxis i a).memory = s.memory := rfl
@[simp] theorem State.setAxis_port (i : AxisIdx) (a : Axis) : (s.setAxis i a).port = s.port := rfl
@[simp] theorem State.setAxis_link (i : AxisIdx) (a : Axis) : (s.setAxis i a).link = s.link := rfl
@[simp] theorem State.setAxis_work (i : AxisIdx) (a : Axis) : (s.setAxis i a).work = s.work := rfl
@[simp] theorem State.setAxis_draws (i : AxisIdx) (a : Axis) : (s.setAxis i a).draws = s.draws := rfl
@[simp] theorem State.setAxis_pending (i : AxisIdx) (a : Axis) : (s.setAxis i a).pending = s.pending := rfl

@[simp] theorem State.onAxis_power (i : AxisIdx) (f : Axis → Axis) : (s.onAxis i f).power = s.power := rfl
@[simp] theorem State.onAxis_clock (i : AxisIdx) (f : Axis → Axis) : (s.onAxis i f).clock = s.clock := rfl
@[simp] theorem State.onAxis_axes (i : AxisIdx) (f : Axis → Axis) : (s.onAxis i f).axes = s.axes.set i (f (s.axis i)) := rfl
@[simp] theorem State.onAxis_cues (i : AxisIdx) (f : Axis → Axis) : (s.onAxis i f).cues = s.cues := rfl
@[simp] theorem State.onAxis_memory (i : AxisIdx) (f : Axis → Axis) : (s.onAxis i f).memory = s.memory := rfl
@[simp] theorem State.onAxis_port (i : AxisIdx) (f : Axis → Axis) : (s.onAxis i f).port = s.port := rfl
@[simp] theorem State.onAxis_link (i : AxisIdx) (f : Axis → Axis) : (s.onAxis i f).link = s.link := rfl
@[simp] theorem State.onAxis_work (i : AxisIdx) (f : Axis → Axis) : (s.onAxis i f).work = s.work := rfl
@[simp] theorem State.onAxis_draws (i : AxisIdx) (f : Axis → Axis) : (s.onAxis i f).draws = s.draws := rfl
@[simp] theorem State.onAxis_pending (i : AxisIdx) (f : Axis → Axis) : (s.onAxis i f).pending = s.pending := rfl

@[simp] theorem State.mapAxes_power (f : Axis → Axis) : (s.mapAxes f).power = s.power := rfl
@[simp] theorem State.mapAxes_clock (f : Axis → Axis) : (s.mapAxes f).clock = s.clock := rfl
@[simp] theorem State.mapAxes_axes (f : Axis → Axis) : (s.mapAxes f).axes = s.axes.map f := rfl
@[simp] theorem State.mapAxes_cues (f : Axis → Axis) : (s.mapAxes f).cues = s.cues := rfl
@[simp] theorem State.mapAxes_memory (f : Axis → Axis) : (s.mapAxes f).memory = s.memory := rfl
@[simp] theorem State.mapAxes_port (f : Axis → Axis) : (s.mapAxes f).port = s.port := rfl
@[simp] theorem State.mapAxes_link (f : Axis → Axis) : (s.mapAxes f).link = s.link := rfl
@[simp] theorem State.mapAxes_work (f : Axis → Axis) : (s.mapAxes f).work = s.work := rfl
@[simp] theorem State.mapAxes_draws (f : Axis → Axis) : (s.mapAxes f).draws = s.draws := rfl
@[simp] theorem State.mapAxes_pending (f : Axis → Axis) : (s.mapAxes f).pending = s.pending := rfl

@[simp] theorem State.setClock_power (k : SkyClock) : (s.setClock k).power = s.power := rfl
@[simp] theorem State.setClock_clock (k : SkyClock) : (s.setClock k).clock = k := rfl
@[simp] theorem State.setClock_axes (k : SkyClock) : (s.setClock k).axes = s.axes := rfl
@[simp] theorem State.setClock_cues (k : SkyClock) : (s.setClock k).cues = s.cues := rfl
@[simp] theorem State.setClock_memory (k : SkyClock) : (s.setClock k).memory = s.memory := rfl
@[simp] theorem State.setClock_port (k : SkyClock) : (s.setClock k).port = s.port := rfl
@[simp] theorem State.setClock_link (k : SkyClock) : (s.setClock k).link = s.link := rfl
@[simp] theorem State.setClock_work (k : SkyClock) : (s.setClock k).work = s.work := rfl
@[simp] theorem State.setClock_draws (k : SkyClock) : (s.setClock k).draws = s.draws := rfl
@[simp] theorem State.setClock_pending (k : SkyClock) : (s.setClock k).pending = s.pending := rfl

@[simp] theorem State.setLink_power (k : LinkPort) : (s.setLink k).power = s.power := rfl
@[simp] theorem State.setLink_clock (k : LinkPort) : (s.setLink k).clock = s.clock := rfl
@[simp] theorem State.setLink_axes (k : LinkPort) : (s.setLink k).axes = s.axes := rfl
@[simp] theorem State.setLink_cues (k : LinkPort) : (s.setLink k).cues = s.cues := rfl
@[simp] theorem State.setLink_memory (k : LinkPort) : (s.setLink k).memory = s.memory := rfl
@[simp] theorem State.setLink_port (k : LinkPort) : (s.setLink k).port = s.port := rfl
@[simp] theorem State.setLink_link (k : LinkPort) : (s.setLink k).link = k := rfl
@[simp] theorem State.setLink_work (k : LinkPort) : (s.setLink k).work = s.work := rfl
@[simp] theorem State.setLink_draws (k : LinkPort) : (s.setLink k).draws = s.draws := rfl
@[simp] theorem State.setLink_pending (k : LinkPort) : (s.setLink k).pending = s.pending := rfl

@[simp] theorem State.setCues_power (r : List CueRecord) : (s.setCues r).power = s.power := rfl
@[simp] theorem State.setCues_clock (r : List CueRecord) : (s.setCues r).clock = s.clock := rfl
@[simp] theorem State.setCues_axes (r : List CueRecord) : (s.setCues r).axes = s.axes := rfl
@[simp] theorem State.setCues_cues (r : List CueRecord) : (s.setCues r).cues = { s.cues with records := r } := rfl
@[simp] theorem State.setCues_memory (r : List CueRecord) : (s.setCues r).memory = s.memory := rfl
@[simp] theorem State.setCues_port (r : List CueRecord) : (s.setCues r).port = s.port := rfl
@[simp] theorem State.setCues_link (r : List CueRecord) : (s.setCues r).link = s.link := rfl
@[simp] theorem State.setCues_work (r : List CueRecord) : (s.setCues r).work = s.work := rfl
@[simp] theorem State.setCues_draws (r : List CueRecord) : (s.setCues r).draws = s.draws := rfl
@[simp] theorem State.setCues_pending (r : List CueRecord) : (s.setCues r).pending = s.pending := rfl

@[simp] theorem State.setEngine_power (e : EngineState) : (s.setEngine e).power = s.power := rfl
@[simp] theorem State.setEngine_clock (e : EngineState) : (s.setEngine e).clock = s.clock := rfl
@[simp] theorem State.setEngine_axes (e : EngineState) : (s.setEngine e).axes = s.axes := rfl
@[simp] theorem State.setEngine_cues (e : EngineState) : (s.setEngine e).cues = s.cues := rfl
@[simp] theorem State.setEngine_memory (e : EngineState) : (s.setEngine e).memory = { s.memory with engine := e } := rfl
@[simp] theorem State.setEngine_port (e : EngineState) : (s.setEngine e).port = s.port := rfl
@[simp] theorem State.setEngine_link (e : EngineState) : (s.setEngine e).link = s.link := rfl
@[simp] theorem State.setEngine_work (e : EngineState) : (s.setEngine e).work = s.work := rfl
@[simp] theorem State.setEngine_draws (e : EngineState) : (s.setEngine e).draws = s.draws := rfl
@[simp] theorem State.setEngine_pending (e : EngineState) : (s.setEngine e).pending = s.pending := rfl

@[simp] theorem State.setSuspendRequest_power (b : Bool) : (s.setSuspendRequest b).power = s.power := rfl
@[simp] theorem State.setSuspendRequest_clock (b : Bool) : (s.setSuspendRequest b).clock = s.clock := rfl
@[simp] theorem State.setSuspendRequest_axes (b : Bool) : (s.setSuspendRequest b).axes = s.axes := rfl
@[simp] theorem State.setSuspendRequest_cues (b : Bool) : (s.setSuspendRequest b).cues = s.cues := rfl
@[simp] theorem State.setSuspendRequest_memory (b : Bool) : (s.setSuspendRequest b).memory = s.memory := rfl
@[simp] theorem State.setSuspendRequest_port (b : Bool) : (s.setSuspendRequest b).port = { s.port with suspendRequest := b } := rfl
@[simp] theorem State.setSuspendRequest_link (b : Bool) : (s.setSuspendRequest b).link = s.link := rfl
@[simp] theorem State.setSuspendRequest_work (b : Bool) : (s.setSuspendRequest b).work = s.work := rfl
@[simp] theorem State.setSuspendRequest_draws (b : Bool) : (s.setSuspendRequest b).draws = s.draws := rfl
@[simp] theorem State.setSuspendRequest_pending (b : Bool) : (s.setSuspendRequest b).pending = s.pending := rfl

@[simp] theorem State.raise_power (c : Cause) : (s.raise c).power = s.power := rfl
@[simp] theorem State.raise_clock (c : Cause) : (s.raise c).clock = s.clock := rfl
@[simp] theorem State.raise_axes (c : Cause) : (s.raise c).axes = s.axes := rfl
@[simp] theorem State.raise_cues (c : Cause) : (s.raise c).cues = s.cues := rfl
@[simp] theorem State.raise_memory (c : Cause) : (s.raise c).memory = s.memory := rfl
@[simp] theorem State.raise_port (c : Cause) : (s.raise c).port = s.port := rfl
@[simp] theorem State.raise_link (c : Cause) : (s.raise c).link = { s.link with attention := s.link.attention.raise c } := rfl
@[simp] theorem State.raise_work (c : Cause) : (s.raise c).work = s.work := rfl
@[simp] theorem State.raise_draws (c : Cause) : (s.raise c).draws = s.draws := rfl
@[simp] theorem State.raise_pending (c : Cause) : (s.raise c).pending = s.pending := rfl

@[simp] theorem State.afterDraw_power : (s.afterDraw).power = s.power := rfl
@[simp] theorem State.afterDraw_clock : (s.afterDraw).clock = s.clock := rfl
@[simp] theorem State.afterDraw_axes : (s.afterDraw).axes = s.axes := rfl
@[simp] theorem State.afterDraw_cues : (s.afterDraw).cues = s.cues := rfl
@[simp] theorem State.afterDraw_memory : (s.afterDraw).memory = s.memory := rfl
@[simp] theorem State.afterDraw_port : (s.afterDraw).port = s.port := rfl
@[simp] theorem State.afterDraw_link : (s.afterDraw).link = s.link := rfl
@[simp] theorem State.afterDraw_work : (s.afterDraw).work = s.work := rfl
@[simp] theorem State.afterDraw_draws : (s.afterDraw).draws = s.draws + 1 := rfl
@[simp] theorem State.afterDraw_pending : (s.afterDraw).pending = s.pending := rfl

@[simp] theorem State.setFrame_power (f : Option FrameIn) : (s.setFrame f).power = s.power := rfl
@[simp] theorem State.setFrame_clock (f : Option FrameIn) : (s.setFrame f).clock = s.clock := rfl
@[simp] theorem State.setFrame_axes (f : Option FrameIn) : (s.setFrame f).axes = s.axes := rfl
@[simp] theorem State.setFrame_cues (f : Option FrameIn) : (s.setFrame f).cues = s.cues := rfl
@[simp] theorem State.setFrame_memory (f : Option FrameIn) : (s.setFrame f).memory = s.memory := rfl
@[simp] theorem State.setFrame_port (f : Option FrameIn) : (s.setFrame f).port = s.port := rfl
@[simp] theorem State.setFrame_link (f : Option FrameIn) : (s.setFrame f).link = { s.link with frame := f } := rfl
@[simp] theorem State.setFrame_work (f : Option FrameIn) : (s.setFrame f).work = s.work := rfl
@[simp] theorem State.setFrame_draws (f : Option FrameIn) : (s.setFrame f).draws = s.draws := rfl
@[simp] theorem State.setFrame_pending (f : Option FrameIn) : (s.setFrame f).pending = s.pending := rfl

@[simp] theorem State.setWork_power (w : Option UpdateWork) : (s.setWork w).power = s.power := rfl
@[simp] theorem State.setWork_clock (w : Option UpdateWork) : (s.setWork w).clock = s.clock := rfl
@[simp] theorem State.setWork_axes (w : Option UpdateWork) : (s.setWork w).axes = s.axes := rfl
@[simp] theorem State.setWork_cues (w : Option UpdateWork) : (s.setWork w).cues = s.cues := rfl
@[simp] theorem State.setWork_memory (w : Option UpdateWork) : (s.setWork w).memory = s.memory := rfl
@[simp] theorem State.setWork_port (w : Option UpdateWork) : (s.setWork w).port = s.port := rfl
@[simp] theorem State.setWork_link (w : Option UpdateWork) : (s.setWork w).link = s.link := rfl
@[simp] theorem State.setWork_work (w : Option UpdateWork) : (s.setWork w).work = w := rfl
@[simp] theorem State.setWork_draws (w : Option UpdateWork) : (s.setWork w).draws = s.draws := rfl
@[simp] theorem State.setWork_pending (w : Option UpdateWork) : (s.setWork w).pending = s.pending := rfl

/-! ### Reading an axis -/

@[simp] theorem State.axis_setAxis_same (i : AxisIdx) (a : Axis) : (s.setAxis i a).axis i = a := by
  simp [State.axis]

theorem State.axis_setAxis_ne {i j : AxisIdx} (h : i ≠ j) (a : Axis) :
    (s.setAxis i a).axis j = s.axis j := by
  have h' : i.val ≠ j.val := fun e => h (Fin.ext e)
  simp [State.axis, h']

theorem State.axis_setAxis (i j : AxisIdx) (a : Axis) :
    (s.setAxis i a).axis j = if i = j then a else s.axis j := by
  by_cases h : i = j
  · subst h; simp
  · simp [h, State.axis_setAxis_ne]

@[simp] theorem State.axis_onAxis_same (i : AxisIdx) (f : Axis → Axis) :
    (s.onAxis i f).axis i = f (s.axis i) := State.axis_setAxis_same s i _

theorem State.axis_onAxis (i j : AxisIdx) (f : Axis → Axis) :
    (s.onAxis i f).axis j = if i = j then f (s.axis i) else s.axis j := State.axis_setAxis s i j _

@[simp] theorem State.axis_mapAxes (i : AxisIdx) (f : Axis → Axis) :
    (s.mapAxes f).axis i = f (s.axis i) := by
  simp [State.axis]

/-- An axis is read from the axes alone. -/
theorem State.axis_congr {s t : State} (h : t.axes = s.axes) (i : AxisIdx) : t.axis i = s.axis i := by
  simp [State.axis, h]

@[simp] theorem State.axis_setClock (k : SkyClock) (i : AxisIdx) : (s.setClock k).axis i = s.axis i := rfl
@[simp] theorem State.axis_setLink (k : LinkPort) (i : AxisIdx) : (s.setLink k).axis i = s.axis i := rfl
@[simp] theorem State.axis_setCues (r : List CueRecord) (i : AxisIdx) : (s.setCues r).axis i = s.axis i := rfl
@[simp] theorem State.axis_setEngine (e : EngineState) (i : AxisIdx) : (s.setEngine e).axis i = s.axis i := rfl
@[simp] theorem State.axis_setSuspendRequest (b : Bool) (i : AxisIdx) : (s.setSuspendRequest b).axis i = s.axis i := rfl
@[simp] theorem State.axis_raise (c : Cause) (i : AxisIdx) : (s.raise c).axis i = s.axis i := rfl
@[simp] theorem State.axis_afterDraw (i : AxisIdx) : (s.afterDraw).axis i = s.axis i := rfl
@[simp] theorem State.axis_setFrame (f : Option FrameIn) (i : AxisIdx) : (s.setFrame f).axis i = s.axis i := rfl
@[simp] theorem State.axis_setWork (w : Option UpdateWork) (i : AxisIdx) : (s.setWork w).axis i = s.axis i := rfl

end Sys2Proof.Machine
end

