-- ==== Sys2Proof/Laws/Requests.lean ====
section
/-! SUPPORT. What the arrival of a request can do, said once: the tests of R165 and the reply. -/

namespace Sys2Proof.Machine

/-- Every request's kind code is a request kind. -/
@[simp] theorem requestKind_kind (r : Request) : requestKind r.kind = true := by
  cases r with
  | cueable r => cases r <;> rfl
  | _ => rfl

/-- A request command is the arrival of its request. -/
theorem exec_requestCommand (o : Origin) {r : Request} (h : r.wf = true) (s : State) :
    exec (requestCommand o r) s = .next (arrive o r s) := by
  cases r with
  | cueable r => cases r <;> rfl
  | stageKnots first knots =>
    have h : knotCountOk knots = true := h
    simp [requestCommand, exec, execStageKnots, arrive, Request.kind, h]
  | _ => rfl

/-- A complete start-up admits every kind. -/
theorem takesKind_of_complete {s : State} (h : s.memory.startUp = .complete) (kind : Byte) :
    s.takesKind kind = true := by simp [State.takesKind, h]

/-- A request that passes the tests of R165 is carried out and answered. -/
theorem arrive_of_takes {o : Origin} {s : State} (h : Takes o s) (r : Request)
    (hq : o = .broadcast → isQueryKind r.kind = false) :
    arrive o r s = answered o r.kind (perform o r s) := by
  obtain ⟨hp, hr, hc, ha⟩ := h
  have hk := takesKind_of_complete hc r.kind
  have ht : s.takesRequests = true := by simp [State.takesRequests, hp, hr]
  cases o with
  | addressed =>
    obtain ⟨ha, hl⟩ := ha rfl
    have hl' : ¬replyCapacity ≤ s.link.replies.length := by omega
    simp [arrive, takeRequest, takeAddressed, judge, answered, ht, ha, hl', hk]
  | broadcast => simp [arrive, takeRequest, takeBroadcast, judge, answered, ht, hk, hq rfl]

/-- The same of the command. -/
theorem exec_of_takes {o : Origin} {s : State} (h : Takes o s) (r : Request) (hw : r.wf = true)
    (hq : o = .broadcast → isQueryKind r.kind = false) :
    exec (requestCommand o r) s = .next (answered o r.kind (perform o r s)) := by
  rw [exec_requestCommand o hw, arrive_of_takes h r hq]

/-- What an arrival can do: nothing, count an overrun, answer a refusal, or carry the request out. -/
theorem arrive_cases (o : Origin) (r : Request) (s : State) :
    arrive o r s = s ∨
      arrive o r s =
        linkError { s.link with requestOverruns := countUp 65535 1 s.link.requestOverruns } s ∨
      arrive o r s = placeReply r.kind (answerRefused .notReady s) ∨
      (s.power = .on ∧ s.link.resetPending = false ∧ s.takesKind r.kind = true ∧
        ((o = .addressed ∧ s.link.replies.length < replyCapacity) ∨
          (o = .broadcast ∧ isQueryKind r.kind = false)) ∧
        arrive o r s = answered o r.kind (perform o r s)) := by
  by_cases ht : s.takesRequests = true
  swap
  · cases o <;> simp [arrive, takeRequest, takeAddressed, takeBroadcast, ht]
  have hp : s.power = .on ∧ s.link.resetPending = false := by
    simpa [State.takesRequests] using ht
  cases o with
  | addressed =>
    by_cases ha : s.link.addressable = true
    · by_cases hl : replyCapacity ≤ s.link.replies.length
      · simp [arrive, takeRequest, takeAddressed, ht, ha, hl]
      · by_cases hk : s.takesKind r.kind = true
        · simp [arrive, takeRequest, takeAddressed, judge, answered, ht, ha, hl, hk, hp]
          omega
        · simp [arrive, takeRequest, takeAddressed, judge, ht, ha, hl, hk]
    · simp [arrive, takeRequest, takeAddressed, ha]
  | broadcast =>
    by_cases hq : isQueryKind r.kind = true
    · simp [arrive, takeRequest, takeBroadcast, hq]
    · by_cases hk : s.takesKind r.kind = true
      · simp [arrive, takeRequest, takeBroadcast, judge, answered, ht, hq, hk, hp]
      · simp [arrive, takeRequest, takeBroadcast, judge, answerRefused, ht, hq, hk]

/-- An axis request on a valid index. -/
theorem onAxisIndex_of_names {axis : Byte} {i : AxisIdx} (h : Names axis i) (s : State)
    (f : AxisIdx → Result) : onAxisIndex axis s f = f i := by
  have hi : axis.toNat < 16 := by rw [h]; exact i.isLt
  have : (⟨axis.toNat, hi⟩ : AxisIdx) = i := Fin.ext h
  simp [onAxisIndex, hi, this]

/-- An axis request on an index above 15. -/
theorem onAxisIndex_of_not_lt {axis : Byte} (h : 16 ≤ axis.toNat) (s : State)
    (f : AxisIdx → Result) : onAxisIndex axis s f = answerRefused .badAxis s := by
  simp [onAxisIndex, Nat.not_lt.mpr h]

end Sys2Proof.Machine
end

