-- ==== Sys2Proof/Laws/Sparse.lean ====
section
/-! SUPPORT. Reading after writing in the finite maps of Table Memory, and that every write keeps their
canonical form. -/

namespace Sys2Proof.Machine

variable {α : Type}

/-! ### Reading after writing -/

@[simp] theorem sparseGet_put_same (k : Nat) (x : α) (m : Sparse α) :
    sparseGet k (sparsePut k x m) = some x := by
  induction m with
  | nil => simp [sparsePut, sparseGet]
  | cons e rest ih =>
    obtain ⟨j, y⟩ := e
    by_cases h : k < j
    · simp [sparsePut, h, sparseGet]
    · by_cases h' : k = j
      · simp [sparsePut, h', sparseGet]
      · simp [sparsePut, h, h', sparseGet, Ne.symm h', ih]

theorem sparseGet_put_ne {j k : Nat} (h : j ≠ k) (x : α) (m : Sparse α) :
    sparseGet j (sparsePut k x m) = sparseGet j m := by
  induction m with
  | nil => simp [sparsePut, sparseGet, Ne.symm h]
  | cons e rest ih =>
    obtain ⟨i, y⟩ := e
    by_cases h₁ : k < i
    · simp [sparsePut, h₁, sparseGet, Ne.symm h]
    · by_cases h₂ : k = i
      · subst h₂; simp [sparsePut, sparseGet, Ne.symm h]
      · simp [sparsePut, h₁, h₂, sparseGet, ih]

@[simp] theorem sparseGet_erase_same (k : Nat) (m : Sparse α) :
    sparseGet k (sparseErase k m) = none := by
  induction m with
  | nil => rfl
  | cons e rest ih =>
    obtain ⟨j, y⟩ := e
    by_cases h : j = k <;> simp [sparseErase, h, sparseGet, ih]

theorem sparseGet_erase_ne {j k : Nat} (h : j ≠ k) (m : Sparse α) :
    sparseGet j (sparseErase k m) = sparseGet j m := by
  induction m with
  | nil => rfl
  | cons e rest ih =>
    obtain ⟨i, y⟩ := e
    by_cases h₁ : i = k
    · simp [sparseErase, h₁, sparseGet, ih, Ne.symm h]
    · simp [sparseErase, h₁, sparseGet, ih]

/-- A write is read back. -/
@[simp] theorem sparseGet_set_same [DecidableEq α] (d : α) (k : Nat) (x : α) (m : Sparse α) :
    (sparseGet k (sparseSet d k x m)).getD d = x := by
  unfold sparseSet
  split <;> simp_all

/-- A write leaves every other key alone. -/
theorem sparseGet_set_ne [DecidableEq α] (d : α) {j k : Nat} (h : j ≠ k) (x : α) (m : Sparse α) :
    sparseGet j (sparseSet d k x m) = sparseGet j m := by
  unfold sparseSet
  split
  · exact sparseGet_erase_ne h m
  · exact sparseGet_put_ne h x m

/-! ### Strictly rising keys -/

theorem keysRise_weaken {top a b : Nat} (h : a ≤ b) {m : Sparse α} (hm : keysRise top b m = true) :
    keysRise top a m = true := by
  cases m with
  | nil => rfl
  | cons e rest =>
    simp only [keysRise, Bool.and_eq_true, decide_eq_true_eq] at hm ⊢
    exact ⟨⟨Nat.le_trans h hm.1.1, hm.1.2⟩, hm.2⟩

theorem keysRise_put {top low k : Nat} (hk : low ≤ k) (ht : k < top) (x : α) {m : Sparse α}
    (h : keysRise top low m = true) : keysRise top low (sparsePut k x m) = true := by
  induction m generalizing low with
  | nil => simp [sparsePut, keysRise, hk, ht]
  | cons e rest ih =>
    obtain ⟨j, y⟩ := e
    simp only [keysRise, Bool.and_eq_true, decide_eq_true_eq] at h
    by_cases h₁ : k < j
    · simp only [sparsePut, h₁, if_true, keysRise, Bool.and_eq_true, decide_eq_true_eq]
      exact ⟨⟨hk, ht⟩, ⟨h₁, h.1.2⟩, h.2⟩
    · by_cases h₂ : k = j
      · subst h₂; simpa [sparsePut, keysRise] using h
      · simp only [sparsePut, h₁, h₂, if_false, keysRise, Bool.and_eq_true, decide_eq_true_eq]
        exact ⟨h.1, ih (by omega) h.2⟩

theorem keysRise_erase {top low : Nat} (k : Nat) {m : Sparse α} (h : keysRise top low m = true) :
    keysRise top low (sparseErase k m) = true := by
  induction m generalizing low with
  | nil => rfl
  | cons e rest ih =>
    obtain ⟨j, y⟩ := e
    simp only [keysRise, Bool.and_eq_true, decide_eq_true_eq] at h
    by_cases h₁ : j = k
    · simp only [sparseErase, h₁, if_true]
      exact ih (keysRise_weaken (by omega) h.2)
    · simp only [sparseErase, h₁, if_false, keysRise, Bool.and_eq_true, decide_eq_true_eq]
      exact ⟨h.1, ih h.2⟩

theorem keysRise_filter {top low : Nat} (p : Nat × α → Bool) {m : Sparse α}
    (h : keysRise top low m = true) : keysRise top low (m.filter p) = true := by
  induction m generalizing low with
  | nil => rfl
  | cons e rest ih =>
    simp only [keysRise, Bool.and_eq_true, decide_eq_true_eq] at h
    by_cases hp : p e
    · simp only [List.filter_cons_of_pos hp, keysRise, Bool.and_eq_true, decide_eq_true_eq]
      exact ⟨h.1, ih h.2⟩
    · rw [List.filter_cons_of_neg hp]
      exact ih (keysRise_weaken (by omega) h.2)

/-- A map that keeps or drops entries and keeps their keys keeps them rising. -/
theorem keysRise_filterMap {β : Type} {top low : Nat} {f : Nat × α → Option (Nat × β)}
    (hf : ∀ e e', f e = some e' → e'.1 = e.1) {m : Sparse α} (h : keysRise top low m = true) :
    keysRise top low (m.filterMap f) = true := by
  induction m generalizing low with
  | nil => rfl
  | cons e rest ih =>
    simp only [keysRise, Bool.and_eq_true, decide_eq_true_eq] at h
    cases he : f e with
    | none =>
      rw [List.filterMap_cons_none he]
      exact ih (keysRise_weaken (by omega) h.2)
    | some e' =>
      obtain ⟨j, y⟩ := e'
      have hj : j = e.1 := hf e _ he
      rw [List.filterMap_cons_some he]
      simp only [keysRise, Bool.and_eq_true, decide_eq_true_eq, hj]
      exact ⟨h.1, ih h.2⟩

/-- Slots written from a rising range of numbers rise. -/
theorem keysRise_range' (g : Nat → Option α) (n low top : Nat) (h : low + n ≤ top) :
    keysRise top low ((List.range' low n).filterMap (fun k => (g k).map (fun x => (k, x)))) = true := by
  induction n generalizing low with
  | zero => rfl
  | succ n ih =>
    rw [List.range'_succ]
    cases hg : g low with
    | none =>
      rw [List.filterMap_cons_none (by simp [hg])]
      exact keysRise_weaken (Nat.le_succ low) (ih (low + 1) (by omega))
    | some x =>
      rw [List.filterMap_cons_some (by simp [hg]; rfl)]
      simp only [keysRise, Bool.and_eq_true, decide_eq_true_eq]
      exact ⟨⟨Nat.le_refl _, by omega⟩, ih (low + 1) (by omega)⟩

/-- Keys below `low` are not listed. -/
theorem sparseGet_below {top low k : Nat} (hk : k < low) {m : Sparse α}
    (h : keysRise top low m = true) : sparseGet k m = none := by
  induction m generalizing low with
  | nil => rfl
  | cons e rest ih =>
    obtain ⟨j, y⟩ := e
    simp only [keysRise, Bool.and_eq_true, decide_eq_true_eq] at h
    have : j ≠ k := by omega
    simp only [sparseGet, this, if_false]
    exact ih (by omega) h.2

/-- A listed key's entry is found. -/
theorem sparseGet_of_mem {top low : Nat} {m : Sparse α} (h : keysRise top low m = true)
    {e : Nat × α} (he : e ∈ m) : sparseGet e.1 m = some e.2 := by
  induction m generalizing low with
  | nil => cases he
  | cons d rest ih =>
    obtain ⟨j, y⟩ := d
    simp only [keysRise, Bool.and_eq_true, decide_eq_true_eq] at h
    rcases List.mem_cons.1 he with rfl | he'
    · simp [sparseGet]
    · have hget := ih h.2 he'
      have : j ≠ e.1 := by
        intro hj
        have hbelow := sparseGet_below (k := e.1) (show e.1 < j + 1 by omega) h.2
        rw [hget] at hbelow; cases hbelow
      simp [sparseGet, this, hget]

/-! ### Every entry -/

theorem all_put {p : Nat × α → Bool} {k : Nat} {x : α} {m : Sparse α} (hx : p (k, x) = true)
    (h : m.all p = true) : (sparsePut k x m).all p = true := by
  induction m with
  | nil => simp [sparsePut, hx]
  | cons e rest ih =>
    obtain ⟨j, y⟩ := e
    simp only [List.all_cons, Bool.and_eq_true] at h
    by_cases h₁ : k < j
    · simp [sparsePut, h₁, hx, h.1, h.2]
    · by_cases h₂ : k = j
      · simp [sparsePut, h₂, h.2]; simpa [h₂] using hx
      · simp [sparsePut, h₁, h₂, h.1, ih h.2]

theorem all_erase {p : Nat × α → Bool} (k : Nat) {m : Sparse α} (h : m.all p = true) :
    (sparseErase k m).all p = true := by
  induction m with
  | nil => rfl
  | cons e rest ih =>
    obtain ⟨j, y⟩ := e
    simp only [List.all_cons, Bool.and_eq_true] at h
    by_cases h₁ : j = k <;> simp [sparseErase, h₁, h.1, ih h.2]

/-! ### Table Memory's writes -/

/-- A write of a segment's contents keeps the canonical form. -/
theorem imagesWf_set {k : Nat} (hk : k < 256) {x : SegmentImage}
    (hx : keysRise 63 0 x.slots = true) {m : Sparse SegmentImage} (h : imagesWf m = true) :
    imagesWf (sparseSet SegmentImage.erased k x m) = true := by
  simp only [imagesWf, Bool.and_eq_true] at h ⊢
  unfold sparseSet
  split
  · exact ⟨keysRise_erase k h.1, all_erase k h.2⟩
  · rename_i hne
    exact ⟨keysRise_put (Nat.zero_le _) hk x h.1, all_put (by simp [hne, hx]) h.2⟩

/-- A write of a segment's record keeps the canonical form. -/
theorem recordsWf_set {k : Nat} (hk : k < 256) (x : SegmentRecord) {m : Sparse SegmentRecord}
    (h : recordsWf m = true) : recordsWf (sparseSet .blank k x m) = true := by
  simp only [recordsWf, Bool.and_eq_true] at h ⊢
  unfold sparseSet
  split
  · exact ⟨keysRise_erase k h.1, all_erase k h.2⟩
  · rename_i hne
    exact ⟨keysRise_put (Nat.zero_le _) hk x h.1, all_put (by simp [hne]) h.2⟩

/-- The slots of a segment in canonical form rise. -/
theorem imagesWf_slots {m : Sparse SegmentImage} (h : imagesWf m = true) (k : Nat) :
    keysRise 63 0 ((sparseGet k m).getD SegmentImage.erased).slots = true := by
  simp only [imagesWf, Bool.and_eq_true] at h
  have hall := h.2
  clear h
  induction m with
  | nil => rfl
  | cons e rest ih =>
    obtain ⟨j, y⟩ := e
    simp only [List.all_cons, Bool.and_eq_true] at hall
    by_cases hj : j = k
    · simpa [sparseGet, hj] using hall.1.2
    · simpa [sparseGet, hj] using ih hall.2

variable (t : TableMemory)

@[simp] theorem TableMemory.image_setImage_same (k : Nat) (x : SegmentImage) :
    (t.setImage k x).image k = x := by
  simp [TableMemory.image, TableMemory.setImage]

theorem TableMemory.image_setImage_ne {j k : Nat} (h : j ≠ k) (x : SegmentImage) :
    (t.setImage k x).image j = t.image j := by
  simp [TableMemory.image, TableMemory.setImage, sparseGet_set_ne _ h]

@[simp] theorem TableMemory.record_setRecord_same (k : Nat) (x : SegmentRecord) :
    (t.setRecord k x).record k = x := by
  simp [TableMemory.record, TableMemory.setRecord]

theorem TableMemory.record_setRecord_ne {j k : Nat} (h : j ≠ k) (x : SegmentRecord) :
    (t.setRecord k x).record j = t.record j := by
  simp [TableMemory.record, TableMemory.setRecord, sparseGet_set_ne _ h]

@[simp] theorem TableMemory.image_setRecord (j k : Nat) (x : SegmentRecord) :
    (t.setRecord k x).image j = t.image j := rfl

@[simp] theorem TableMemory.record_setImage (j k : Nat) (x : SegmentImage) :
    (t.setImage k x).record j = t.record j := rfl

end Sys2Proof.Machine
end

