-- ==== Sys2Proof/Laws/Steps.lean ====
section
/-! SUPPORT. What the shared operations of the axis sets, the Sky Clock, the Table Port, the Rewrite Engine
and the Lane Update's work can do, one lemma for each, so that no later proof unfolds them. -/

namespace Sys2Proof.Machine

/-! ### Axis sets and the Sky Clock -/

/-- An axis joins a set, and no other axis comes or goes. -/
@[simp] theorem inSet_addAxis (set : AxisSet) (i j : AxisIdx) :
    inSet (addAxis set i) j = (inSet set j || decide (i = j)) := by
  revert i j
  have h : ∀ i j : AxisIdx, (1#16 <<< i.val).getLsbD j.val = decide (i = j) := by decide
  intro i j
  simp only [inSet, addAxis, BitVec.getLsbD_or, h]

/-- A Lane Update consumes the pending Sky Set (R6). -/
@[simp] theorem SkyClock.settle_pendingSky (k : SkyClock) : k.settle.1.pendingSky = none := by
  unfold SkyClock.settle SkyClock.settleSky SkyClock.settleShow
  cases h : k.pendingSky <;> cases h' : k.pendingShow <;> simp only <;> (repeat' split) <;>
    simp_all [SkyClock.advance, SkyClock.stepRamp] <;> split <;> simp_all

/-- A Lane Update consumes the pending Show Set (R7). -/
@[simp] theorem SkyClock.settle_pendingShow (k : SkyClock) : k.settle.1.pendingShow = none := by
  unfold SkyClock.settle SkyClock.settleSky SkyClock.settleShow
  cases h : k.pendingSky <;> cases h' : k.pendingShow <;> simp only <;> (repeat' split) <;>
    simp_all [SkyClock.advance, SkyClock.stepRamp]

/-! ### The Table Port -/

/-- The read an axis asks for is one of its own. -/
theorem askedRead_axis {s : State} {i : AxisIdx} {r : PortRead} (h : s.askedRead i = some r) :
    r.axis = i ∧ (s.axis i).fetchState = .waiting ∧ s.readTarget i = some r := by
  unfold State.askedRead at h
  split at h
  · rename_i hw
    refine ⟨?_, by simpa [State.waiting] using hw, h⟩
    simp only [State.readTarget, Option.bind_eq_bind, Option.bind_eq_some_iff] at h
    obtain ⟨_, _, _, _, _, _, h⟩ := h
    cases h
    rfl
  · cases h

/-- The pending set is not empty when some axis waits. -/
theorem anyWaiting_iff (s : State) : s.anyWaiting = true ↔ ∃ i, (s.axis i).fetchState = .waiting := by
  have hall : ∀ i : AxisIdx, i ∈ allAxes := by decide
  simp [State.anyWaiting, State.waiting, List.any_eq_true, hall]

/-- The port leaves everything as it is, or grants the read of one waiting axis. -/
theorem grantRead_cases (s : State) :
    grantRead s = s ∨
      ∃ r, s.port.reading = none ∧ s.memory.engine.grants = true ∧ s.askedRead r.axis = some r ∧
        grantRead s =
          { s with port := { s.port with reading := some r, lastServed := r.axis } }.onAxis r.axis
            (fun a => { a with fetchState := .granted, stallCounted := false }) := by
  unfold grantRead
  split
  · rename_i hg
    split
    · exact .inl rfl
    · rename_i r hr
      obtain ⟨i, -, hi⟩ := List.exists_of_findSome?_eq_some hr
      have hri : r.axis = i := (askedRead_axis hi).1
      exact .inr ⟨r, hg.1, hg.2, by rw [hri]; exact hi, rfl⟩
  · exact .inl rfl

/-- The suspend request is raised, or nothing happens. -/
theorem raiseSuspend_cases (s : State) : raiseSuspend s = s ∨ raiseSuspend s = s.setSuspendRequest true := by
  unfold raiseSuspend
  split <;> simp

/-- A suspended engine resumes, or nothing happens. -/
theorem resumeIfIdle_cases (s : State) :
    resumeIfIdle s = s ∨
      s.memory.engine.suspended = true ∧ s.anyWaiting = false ∧ s.port.reading = none ∧
        resumeIfIdle s = (s.setEngine s.memory.engine.resumed).setSuspendRequest false := by
  unfold resumeIfIdle
  split
  · rename_i h
    exact .inr ⟨h.1, h.2.1, h.2.2, rfl⟩
  · exact .inl rfl

/-- A waiting read enters the Table Stall count, or nothing happens. -/
theorem countStall_cases (s : State) (i : AxisIdx) :
    countStall s i = s ∨
      countStall s i =
        { s with memory := { s.memory with stalls := countUp 65535 1 s.memory.stalls } }.onAxis i
          (fun a => { a with stallCounted := true }) := by
  unfold countStall
  split <;> simp

/-- A read that joins the pending set is granted, counted, or raises the suspend request. -/
theorem postRead_cases (i : AxisIdx) (s : State) :
    s.memory.engine.grants = true ∧ postRead i s = grantRead s ∨
      s.memory.engine.grants = false ∧
        (postRead i s = countStall s i ∨ postRead i s = raiseSuspend s) := by
  unfold postRead
  split
  · rename_i h
    exact .inl ⟨h, rfl⟩
  · rename_i h
    refine .inr ⟨by simpa using h, ?_⟩
    split <;> simp

/-! ### The Rewrite Engine -/

/-- A phase that stops settles the segment of its rewrite, and nothing else. -/
theorem stopPhase_cases (s : State) :
    stopPhase s = s ∨
      ∃ r, s.memory.engine ≠ .idle ∧ s.memory.rewrite = some r ∧
        stopPhase s =
          { s with memory := s.memory.setImage r.segment (s.memory.stopped s.draws r) }.afterDraw := by
  unfold stopPhase
  split
  · exact .inl rfl
  · exact .inl rfl
  · rename_i r hr he
    exact .inr ⟨r, he, hr, rfl⟩

/-! ### The work of a Lane Update -/

/-- A step of the work is nothing where there is none, its end, the next axis turn, or a step of the firing
pass; a free value is taken only where either may be next. -/
theorem workStep_cases (s : State) :
    s.work = none ∧ workStep s = s ∨
      ∃ w, s.work = some w ∧
        (w.turns = [] ∧ w.firing = false ∧ workStep s = s.setWork none ∨
          w.firing = true ∧ (workStep s = passStep w s ∨ workStep s = passStep w s.afterDraw) ∨
          ∃ i rest, w.turns = i :: rest ∧
            (workStep s = turnStep w i rest s ∨ workStep s = turnStep w i rest s.afterDraw)) := by
  unfold workStep
  cases hw : s.work with
  | none => exact .inl ⟨rfl, rfl⟩
  | some w =>
    refine .inr ⟨w, rfl, ?_⟩
    obtain ⟨u, turns, firing⟩ := w
    cases turns with
    | nil => cases firing <;> simp
    | cons i rest =>
      cases firing with
      | false => exact .inr (.inr ⟨i, rest, rfl, .inl rfl⟩)
      | true =>
        by_cases h : Config.passFirst s.draws
        · exact .inr (.inl ⟨rfl, .inr (by simp [h])⟩)
        · exact .inr (.inr ⟨i, rest, rfl, .inr (by simp [h])⟩)

/-- A step of the firing pass fires a due head record, or ends the pass. -/
theorem passStep_cases (w : UpdateWork) (s : State) :
    (∃ c rest, s.cues.records = c :: rest ∧ c.time ≤ w.update.showLane ∧
      passStep w s = fireCue c (s.setCues rest)) ∨
      passStep w s = s.setWork (workLeft w.update w.turns false) := by
  unfold passStep fireHead cueDue
  cases h : s.cues.records with
  | nil => simp
  | cons c rest =>
    by_cases hc : c.time ≤ w.update.showLane
    · exact .inl ⟨c, rest, rfl, hc, by simp [hc]⟩
    · exact .inr (by simp [hc])

/-- No work is in hand: there is none to do. -/
@[simp] theorem workStep_none {s : State} (h : s.work = none) : workStep s = s := by
  simp [workStep, h]

/-- No work is in hand: it is at its end. -/
@[simp] theorem finishWork_none {s : State} (h : s.work = none) : finishWork s = s := by
  simp [finishWork, stepsLeft, h, runWork]

/-! ### The turns -/

/-- Every turn leaves the axis with no stop of before it (R90). -/
@[simp] theorem axisTurn_stopTaken (u : LaneUpdate) (i : AxisIdx) (s : State) :
    ((axisTurn u i s).axis i).stopTaken = false := by
  simp [axisTurn]

/-- An axis that has taken no stop since its last turn does not stand for one. -/
@[simp] theorem Axis.standsStill_of_not_stopTaken {a : Axis} (h : a.stopTaken = false) :
    a.standsStill = false := by
  simp [Axis.standsStill, h]

/-- A driven turn enters LIMITED at an end stop it meets, stands for a stop taken before it (R90), or
moves. -/
theorem drivenTurn_cases (i : AxisIdx) (s : State) :
    (∃ stop, (s.axis i).meetsStop stop = true ∧
        drivenTurn i s = standingTurn i (limitAxis i stop s)) ∨
      (∀ stop, (s.axis i).meetsStop stop = false) ∧
        ((s.axis i).standsStill = true ∧ drivenTurn i s = standingTurn i s ∨
          (s.axis i).standsStill = false ∧ drivenTurn i s = moveTurn i s) := by
  unfold drivenTurn
  split
  · exact .inl ⟨_, ‹_›, rfl⟩
  · split
    · exact .inl ⟨_, ‹_›, rfl⟩
    · refine .inr ⟨fun stop => by cases stop <;> simp_all, ?_⟩
      split <;> simp_all

/-- A homing turn fails, or stands for a stop taken before it (R90) or moves, and then makes the completion
test. -/
theorem homingTurn_cases (i : AxisIdx) (s : State) :
    homingTurn i s = handOver i 0 (faultAxis i .homeFail s) ∨
      (s.axis i).standsStill = true ∧
        homingTurn i s =
          (handOver i 0 (s.onAxis i (fun a => { a with lag := false }))).onAxis i
            Axis.testCompletion ∨
      (s.axis i).standsStill = false ∧
        homingTurn i s =
          (handOver i (stepCount (s.axis i) (s.axis i).homingMove)
            (s.onAxis i Axis.homingMove)).onAxis i Axis.testCompletion := by
  simp only [homingTurn]
  split
  · exact .inl rfl
  · split
    · exact .inr (.inl ⟨‹_›, rfl⟩)
    · exact .inr (.inr ⟨by simp_all, rfl⟩)

end Sys2Proof.Machine
end

