-- ==== Sys2Proof/Tests/Slice0.lean ====
section
/-! SUPPORT. Tests of the model on the worked examples of the spec, the smoke tests of WellFormed, and
words written out from spec/12. -/

namespace Sys2Proof.Tests

open Sys2Proof.Machine

set_option Elab.async false

/-! ### Helpers -/

/-- The state an answer carries. -/
def stateOf (s : State) : Host.Outcome State Fault Refusal → State
  | .next t => t
  | .fault _ | .refused _ => s

/-- A unit of address 1 that has completed its start-up scan. -/
def unit1 : State := startUpScanCompletion (powerOnReset 1 State.reset)

/-- `unit1` with axis 0 changed. -/
def withAxis (f : Axis → Axis) : State := unit1.onAxis 0 f

/-- The state after one command. -/
def after (c : Instr) (s : State) : State := stateOf s (exec c s)

/-! ### WellFormed refuses what no frame can carry -/

theorem test_wf_refuses_no_knots : (Instr.stageKnots .addressed 0 []).wf = false := by decide

theorem test_wf_refuses_four_knots :
    (Instr.stageKnots .addressed 0 (List.replicate 4 ⟨0, 0⟩)).wf = false := by decide

theorem test_wf_refuses_long_cue :
    (Instr.cue .addressed 0 0 0x03 (List.replicate 49 0)).wf = false := by decide +kernel

theorem test_wf_admits_longest_cue :
    (Instr.cue .addressed 0 0 0x03 (List.replicate 48 0)).wf = true := by decide +kernel

/-! ### Words of spec/12 -/

/-- R176: the check over the digits one to nine is 29B1. -/
theorem test_check_digits :
    crc16 [0x31, 0x32, 0x33, 0x34, 0x35, 0x36, 0x37, 0x38, 0x39] = 0x29B1 := by decide +kernel

/-- spec/12: MOVE is axis, Pe, Te, most significant byte first. -/
theorem test_decode_move :
    decodeRequest 0 0x18 [5, 0, 0, 0, 0, 0, 0x0F, 0x42, 0x40, 0, 0, 0, 0, 0, 0, 0x36, 0xB0] =
      some (.cueable (.move 5 1000000 14000)) := by decide +kernel

/-- spec/12: COUPLED is source, numerator (4), denominator (4), phase (8). -/
theorem test_decode_coupled :
    decodeRequest 0 0x12
        [7, 3, 3, 0xFF, 0xFF, 0xFF, 0xFB, 0, 0, 0, 4, 0, 0, 0, 0, 0, 0, 0x27, 0x10] =
      some (.cueable (.axisLaw 7 3 (.coupled 3 (-5) 4 10000))) := by decide +kernel

/-- spec/12: COMMIT is segment (2), erase-only (1). -/
theorem test_decode_commit : decodeRequest 0 0x2B [0, 120, 1] = some (.commit 120 1) := by decide +kernel

/-- R165: STAGE_KNOTS carries one, two or three whole knots. -/
theorem test_decode_stage_knots_sizes :
    (decodeRequest 0 0x29 (List.replicate 16 0)).isNone ∧
      (decodeRequest 0 0x29 (List.replicate 17 0)).isSome ∧
      (decodeRequest 0 0x29 (List.replicate 49 0)).isSome ∧
      (decodeRequest 0 0x29 (List.replicate 65 0)).isNone := by decide +kernel

/-- R161: the frame of a broadcast SYNC. -/
def syncFrame : FrameIn :=
  { address := 31, taken := true, chars := [31, 0x02, 0x00] ++ bytes16 (crc16 [0x02, 0x00]), bad := false }

/-- spec/12: every query part has its size. -/
theorem test_reply_sizes :
    (statusUnit unit1).length = 53 ∧ (statusQueues unit1).length = 49 ∧
      (statusMemory unit1).length = 20 ∧ (axisMotion Axis.reset).length = 54 ∧
      (axisHead Axis.reset).length = 27 ∧ (axisPair Axis.reset).length = 38 ∧
      (motionField MotionConfig.reset).length = 34 ∧ (axisSense Axis.reset).length = 46 ∧
      (axisCapture Axis.reset.encoder.capture).length = 36 ∧
      (axisHoming Axis.reset.homing).length = 41 ∧ (senseField SenseConfig.reset).length = 34 ∧
      (tableEntry false DirEntry.absent).length = 42 ∧ (tableSegments []).length = 33 ∧
      (segmentField unit1.memory .torn).length = 39 := by decide +kernel

/-! ### spec/01 -/

/-- spec/01, Worked ramp: the first step gives 572, rounded toward zero. -/
theorem test_ramp_first_step :
    ({ startRate := 1000, endRate := -2000, length := 7, taken := 0 } : Ramp).next.1 = 572 := by
  decide +kernel

/-- spec/01, Worked ramp: the seventh step ends it at −2000. -/
theorem test_ramp_last_step :
    ({ startRate := 1000, endRate := -2000, length := 7, taken := 6 } : Ramp).next =
      (-2000, none) := by decide +kernel

/-- R6: an applied Sky Set sets the mark and neither steps nor adds. -/
theorem test_sky_set_applied :
    ({ SkyClock.reset with state := .running, pendingSky := some 100000 }).settleSky =
      ({ SkyClock.reset with state := .running, skyLane := 100000 }, true) := by decide +kernel

/-! ### spec/02 -/

/-- spec/02, Worked LINEAR cases. -/
theorem test_linear_backward : linearTarget 1000 1099511627776 0 (-1000000) = -2907 := by decide +kernel

/-- spec/02, Worked LINEAR cases: the gear transform rounds toward minus infinity. -/
theorem test_gear_negative : gearTarget (-2907) 0 1152000 = -1 := by decide +kernel

/-- spec/02, Worked TABLE case. -/
theorem test_interpolate :
    interpolate ⟨0, 1000000⟩ ⟨3600000000, -6200000⟩ 333333 = 999333 := by decide +kernel

/-- spec/02, Worked COUPLED case. -/
theorem test_coupled : coupledTarget 999333 (-5) 4 10000 = -1239167 := by decide +kernel

/-- spec/02, Worked sequence: at 15,000 one move completes and the next is late. -/
theorem test_cued_late_move :
    cuedStage 15000 [⟨400000, 15000⟩, ⟨2000000, 14500⟩] (some ⟨14000, 1000000⟩) 1000000 false =
      { p := 2000000, moves := [], headStart := none, late := true } := by decide +kernel

/-- spec/02, Worked sequence: at 12,000 the target is a third of the way. -/
theorem test_cued_within_move :
    (cuedStage 12000 [⟨1000000, 14000⟩] (some ⟨11000, 0⟩) 0 false).p = 333333 := by decide +kernel

/-- spec/02, Worked wrap case. -/
theorem test_rebase : rebasedWrap 21474837480 100 1152000 = 21474836480 := by decide +kernel

/-! ### spec/03 -/

/-- spec/03, Worked sequence: knot 62 lies in slot 62 of segment 40, knot 63 in slot 0 of 41. -/
theorem test_locate_knots :
    locateKnot 62 [(40, 63), (41, 30)] = some (40, 62) ∧
      locateKnot 63 [(40, 63), (41, 30)] = some (41, 0) := by decide +kernel

/-- spec/03, Worked sequence: after axis 4, axis 11 comes before axis 4. -/
theorem test_service_order :
    (serviceOrder 4).find? (fun i => i = 4 ∨ i = 11) = some 11 := by decide +kernel

/-- A fetch over knots 0 to 61. -/
def fetch61 : Fetch :=
  { time := 141000000000, low := ⟨0, ⟨0, 0⟩, 40⟩, high := ⟨61, ⟨219600000000, 0⟩, 40⟩, phase := .search }

/-- spec/03, Worked sequence: the search over knots 0 to 61 reads 30 first, then 45. -/
theorem test_search_midpoints :
    fetch61.nextIndex = 30 ∧
      (fetch61.take ⟨30, ⟨108000000000, 0⟩, 40⟩).nextIndex = 45 := by decide +kernel

/-! ### spec/04 -/

/-- A staged image of one knot. -/
def staged1 : Staging := { header := some ⟨20, 0, 1, true⟩, slots := [(0, ⟨5, 6⟩)] }

/-- `unit1` with that image staged. -/
def unitStaged : State := { unit1 with memory := { unit1.memory with staging := staged1 } }

/-- R68: an accepted COMMIT enters ERASING with the segment BUSY. -/
theorem test_commit_accepted :
    (doCommit 120 0 unitStaged).outcome = .done ∧
      (doCommit 120 0 unitStaged).state.memory.engine = .erasing ∧
      (doCommit 120 0 unitStaged).state.memory.record 120 = .busy := by decide +kernel

/-- R67: a COMMIT with nothing staged is INCOMPLETE. -/
theorem test_commit_incomplete : (doCommit 120 0 unit1).outcome = .incomplete := by decide +kernel

/-- R70, R71: VERIFIED makes the segment VALID and the table COMPLETE. -/
theorem test_program_verified :
    (programComplete true (eraseComplete (doCommit 120 0 unitStaged).state)).memory.directory[20].state =
      .complete := by decide +kernel

/-- R59: an open mark makes the segment TORN. -/
theorem test_scan_open_mark :
    scanImage { SegmentImage.erased with openMark := true } = .torn := by decide +kernel

/-! ### spec/05 -/

/-- spec/05, Worked limiter, update 6: the landing clamp takes 36 to 16. -/
theorem test_landing_clamp : velocityStep 100 20 16 56 = 16 := by decide +kernel

/-- spec/05, Worked limiter, update 4: the braking term 76 is reached. -/
theorem test_braking_term : velocityStep 100 20 148 60 = 76 := by decide +kernel

/-- spec/05, Worked take-up limited by the budget, update 3. -/
theorem test_take_up_budget : takeUp 300 .negative (-270) (-480) = -20 := by decide +kernel

/-- spec/05, Worked reversal during take-up, update 3: 980 to cross, 480 taken. -/
theorem test_take_up_reversal :
    afterReversal 20 .negative = .positive ∧ takeUp 1000 .positive (-980) 20 = 480 := by decide +kernel

/-! ### spec/06 -/

/-- R96: an ENABLE while the Halt line stands accepted active is refused. -/
theorem test_enable_halted :
    (doEnable 0 { unit1 with clock := { unit1.clock with haltLine := ⟨true, 0⟩ } }).outcome = .halted := by
  decide +kernel

/-- R98: TRACK of a BOUNDED axis that is not homed is refused. -/
theorem test_track_not_homed :
    (doTrack 0 (withAxis (fun a =>
      { a with
        state := .ready, law := .cued, motion := { a.motion with kind := .bounded } }))).outcome =
      .notHomed := by decide +kernel

/-- spec/06, Worked sequence: LIM_POS accepted active with v > 0 makes the axis LIMITED. -/
theorem test_limit_entry :
    ((handLimit 0 .limPos true (withAxis (fun a =>
      { a with
        state := .tracking, v := 40, c := 200000, m := 200200
        motion := { a.motion with kind := .bounded }
        filters := { a.filters with limPos := ⟨some .low, .low, 0⟩ } }))).axis 0).state =
      .limited := by decide +kernel

/-- R107: a Halt that reaches a FAULTED axis raises the further-cause count only. -/
theorem test_further_cause :
    ((takeCause .halt 0 (withAxis (fun a =>
      { a with state := .faulted, fault := ⟨.drive, 5, .tracking, 0⟩ }))).axis 0).fault =
      ⟨.drive, 5, .tracking, 1⟩ := by decide +kernel

/-! ### spec/07 -/

/-- spec/07, Worked homing: the completion at turn 20. -/
def homingAxis : Axis :=
  { Axis.reset with
    state := .homing, c := -10, v := 0
    motion := { MotionConfig.reset with kind := .bounded }
    sense := { SenseConfig.reset with encoderMode := .x4, homeMode := .switchIndex, homeOffset := 1000 }
    homing := { Homing.reset with phase := .stopping, switchPoint := some 80, reference := some 20 } }

theorem test_homing_completion :
    homingAxis.testCompletion.c = 970 ∧ homingAxis.testCompletion.m = 1000 ∧
      homingAxis.testCompletion.homing.distance = some (-60) ∧
      homingAxis.testCompletion.measured = some 970 := by decide +kernel

/-- spec/07, Worked filter acceptance: the third low sample in a row is accepted. -/
theorem test_filter_acceptance :
    (Filter.sample 2 .low ⟨some .high, .low, 2⟩) = (⟨some .low, .low, 0⟩, .change) := by decide +kernel

/-- R126: an UNSETTLED filter with window 4 settles at its fifth sample. -/
theorem test_filter_settles :
    (Filter.sample 4 .high ⟨none, .high, 4⟩).1.accepted = some .high ∧
      (Filter.sample 4 .high ⟨none, .high, 3⟩).1.accepted = none := by decide +kernel

/-! ### spec/08 -/

/-- spec/08, Worked decoding: 10 → 00 counts −1 under X1, 00 → 01 counts 0. -/
theorem test_decode_x1 :
    edgeCount .x1 (.high, .low) (.low, .low) = -1 ∧ edgeCount .x1 (.low, .low) (.low, .high) = 0 := by
  decide +kernel

/-- spec/08, Worked measured position: floor(−37.5) = −38, so the offset becomes 238. -/
theorem test_tie_encoder :
    ({ Axis.reset with
        c := 200, sense := { SenseConfig.reset with encoderMode := .x4 }
        encoder := { Encoder.reset with count := -3 } }).tieEncoder.encoder.offset = 238 := by
  decide +kernel

/-- spec/08, Worked capture: an event over a Pending capture counts as missed. -/
theorem test_capture_missed :
    IndexCapture.take ⟨8196, 1002000⟩ ⟨some ⟨4100, 1000000⟩, none, true, 0⟩ =
      ⟨some ⟨4100, 1000000⟩, none, true, 1⟩ := by decide +kernel

/-! ### spec/09 -/

/-- spec/09, Worked sequence: a handover settles the window, and DIR turns at once. -/
theorem test_window_replaced :
    Output.handOver .brake (-2)
        { Output.startUp with
          mode := .active, enable := true, brake := false, window := some ⟨.positive, 4, true, 3⟩ } =
      { Output.startUp with
        mode := .active, enable := true, brake := false, dir := .negative
        window := some ⟨.negative, 2, true, 0⟩ } := by decide +kernel

/-- spec/09, Worked sequence: the last pulse's end applies the park levels. -/
theorem test_park_at_window_end :
    (Output.pulseEnd .brake
        { Output.startUp with
          mode := .parked, parkPending := true, enable := true, brake := false, step := true
          window := some ⟨.negative, 2, true, 2⟩ }).brake = true := by decide +kernel

/-! ### spec/10 -/

/-- R152: a cue of an equal time goes behind those queued. -/
theorem test_cue_order :
    insertCue ⟨12, 6, .track 3⟩ [⟨11, 7, .hold⟩, ⟨12, 5, .enable 3⟩, ⟨20, 9, .stop 3⟩] =
      [⟨11, 7, .hold⟩, ⟨12, 5, .enable 3⟩, ⟨12, 6, .track 3⟩, ⟨20, 9, .stop 3⟩] := by decide +kernel

/-- spec/10, Worked sequence: a refused fired MOVE is recorded. -/
theorem test_cue_failure :
    (fireCue ⟨20, 9, .move 5 0 0⟩ unit1).cues.lastFailure = some ⟨9, 0x18, .wrongState⟩ := by
  decide +kernel

/-! ### spec/11 -/

/-- spec/11, Worked sequence: B's reply to HOLD has 7 characters. -/
theorem test_reply_characters :
    (Reply.frame { address := 2, kind := 0x03, outcome := .done, data := [] }).length = 7 := by
  decide +kernel

/-- spec/11: a broadcast SYNC passes both tests. -/
theorem test_sync_frame : (syncFrame.parse.map GoodFrame.checks) = some true := by decide +kernel

/-- spec/11, Worked sequence: the seventh buffered character sent, its end mark goes with it. -/
theorem test_end_mark_makes_gap :
    ((bufferedCharacterSent { unit1 with
      link := { unit1.link with
        relay := .buffered, returnBuffer := [.char ⟨0, false, true⟩, .endMark] } }).link.relay) = .gap := by
  decide +kernel

/-! ### Witnesses: states that meet the premises of the statements -/

/-- Axis 0 of `unit1` in another state. -/
def inState (x : AxisState) : State := withAxis (fun a => { a with state := x })

/-- All the axis states. -/
def everyState : List AxisState := [.off, .ready, .homing, .tracking, .frozen, .limited, .faulted]

/-- Requests of both origins reach their owner in `unit1`, whatever the state of axis 0. -/
theorem witness_takes : ∀ x ∈ everyState,
    Takes .addressed (inState x) ∧ Takes .broadcast (inState x) ∧ Names 0 0 ∧
      ((inState x).axis 0).state = x := by unfold Takes Names; decide +kernel

/-- RequestsAreTestedInOrder: each of its cases. -/
theorem witness_RequestsAreTestedInOrder :
    (Request.wf .run = true ∧ isQueryKind Request.run.kind = false ∧ Request.run.kind ≠ 0x30) ∧
    isQueryKind (Request.segmentQuery 0).kind = true ∧ unit1.link.addressable = true ∧
    (powerLoss unit1).power ≠ .on ∧ State.reset.power = .on ∧
    State.reset.link.resetPending = false ∧ State.reset.link.addressable = false ∧
    State.reset.memory.startUp = .scanning ∧
    (after (.unitReset .addressed 1) unit1).link.resetPending = true ∧
    (after (.run .addressed) (after (.run .addressed) (after (.run .addressed)
      (after (.run .addressed) unit1)))).link.replies.length = 4 := by decide +kernel

/-- RefusedRequestsChangeNothing: a request is refused; an index above 15. -/
theorem witness_RefusedRequestsChangeNothing :
    (perform .addressed (.home 0) unit1).outcome = .wrongState ∧ 16 ≤ (16 : Byte).toNat := by
  decide +kernel

/-- A unit whose rewrite of segment 120 is in hand, with axis 0's read in progress. -/
def unitRewriting : State :=
  { (after (.commit .broadcast 120 0) unitStaged).onAxis 0
      (fun a => { a with fetchState := .granted, fetch := some fetch61 }) with
    port := { reading := some ⟨0, 30, 1, 2⟩, lastServed := 0, suspendRequest := true } }

/-- `unitRewriting` with another engine state. -/
def rewritingIn (e : EngineState) : State := unitRewriting.setEngine e

/-- ResetsCutOffARewrite, StagingIsFrozenDuringARewrite and RewriteEngineEventsTakeTheirStep. -/
theorem witness_RewriteEngineEventsTakeTheirStep :
    unitRewriting.memory.rewrite = some ⟨120, false, none, some 20⟩ ∧ unitRewriting.power = .on ∧
    unitRewriting.memory.engine = .erasing ∧ unitRewriting.port.suspendRequest = true ∧
    unitRewriting.memory.staging.header = some ⟨20, 0, 1, true⟩ ∧
    sparseGet 0 unitRewriting.memory.staging.slots = some ⟨5, 6⟩ ∧
    (rewritingIn .programming).memory.engine = .programming ∧
    (rewritingIn .aborting).memory.engine = .aborting ∧
    ((after (.commit .broadcast 120 1) unitStaged).memory.rewrite).map Rewrite.eraseOnly = some true ∧
    unit1.memory.engine = .idle ∧ unit1.memory.rewrite = none := by decide +kernel

/-- EndOfARewriteLeavesTheEngineIdle. -/
theorem witness_EndOfARewriteLeavesTheEngineIdle :
    imagesWf unitRewriting.memory.images = true ∧ recordsWf unitRewriting.memory.records = true := by
  decide +kernel

/-- ScanClassesEverySegment: each class of segment. -/
theorem witness_ScanClassesEverySegment :
    State.reset.power = .on ∧ State.reset.memory.startUp = .scanning ∧
    imagesWf [(3, { header := some ⟨20, 0, 1, true⟩, slots := [(0, ⟨5, 6⟩)], marker := true
                    openMark := false }),
      (4, { header := none, slots := [], marker := false, openMark := true }),
      (5, { header := none, slots := [(0, ⟨5, 6⟩)], marker := false, openMark := false })] = true := by
  decide +kernel

/-- Records of table 20: sequence 0, then others by the case. -/
def record20 (sequence : Fin 16) (final : Bool) (start stop : Int) : SegmentRecord :=
  .valid ⟨20, sequence, 1, final⟩ ⟨start, 0⟩ ⟨stop, 0⟩

/-- ScanClassesEverySegment: each case of R61, over records in their canonical form. -/
theorem witness_EntriesAreBuiltByTheirCases :
    (∀ x ∈ [([], DirState.absent),
      ([(4, record20 0 true 0 9), (7, record20 0 false 0 9)], .conflicted),
      ([(4, record20 0 false 0 9)], .part), ([(4, record20 1 true 0 9)], .part),
      ([(4, record20 0 true 0 9), (5, record20 1 false 10 19)], .part),
      ([(4, record20 0 false 0 9), (5, record20 1 true 9 19)], .disordered),
      ([(4, record20 1 true 10 19), (5, record20 0 false 0 9)], .complete)],
      recordsWf x.1 = true ∧ (buildEntry 20 x.1 3).state = x.2 ∧ (buildEntry 20 x.1 3).bound = 3) ∧
    (buildEntry 20 [(4, record20 1 true 10 19), (5, record20 0 false 0 9)] 0).segments = [(5, 1), (4, 1)] ∧
    (buildEntry 20 [(4, record20 0 true 0 9), (7, record20 0 false 0 9)] 0).claims = 2 := by
  decide +kernel

/-- RequestsAreTestedInOrder: an unknown kind, a known kind with a payload of another size, and no knot or
four. -/
theorem witness_RequestsAreTestedByKindAndSize :
    requestKind 0x0A = false ∧ requestKind 0x18 = true ∧ decodeRequest 0 0x18 [] = none ∧
    sizeOf 0x18 16 = false ∧ sizeOf 0x18 17 = true ∧ unit1.link.replies.length < 4 ∧
    (takeRequest .addressed 0x0A none unit1).link.replies.map Reply.outcome = [.unknownKind] ∧
    (takeRequest .addressed 0x18 none unit1).link.replies.map Reply.outcome = [.badLength] ∧
    takeRequest .broadcast 0x0A none unit1 = unit1 ∧
    (after (.stageKnots .addressed 0 []) unit1).link.replies.map Reply.outcome = [.badLength] ∧
    (after (.stageKnots .addressed 0 (List.replicate 4 ⟨0, 0⟩)) unit1).link.replies.map Reply.outcome =
      [.badLength] := by decide +kernel

/-! ### The work of a Lane Update, step by step -/

/-- `unit1` with a due cue and a later one, and an update's work in hand. -/
def unitWorking (turns : List AxisIdx) (firing : Bool) : State :=
  (unit1.setCues [⟨-5, 7, .hold⟩, ⟨100000, 8, .hold⟩]).setWork
    (some { update := { skyLane := 0, showLane := 0, skyMark := false, showMark := false }
            turns, firing })

/-- StepRunsFrontCommand, DueCuesFire: with no turn left the due head fires, then the pass ends, and with it
the work. -/
theorem witness_DueCuesFire :
    (unitWorking [] true).pending = [] ∧ unit1.power = .on ∧ unit1.work = none ∧
    (workStep (unitWorking [] true)).clock.softHold = true ∧
    (workStep (unitWorking [] true)).cues.records = [⟨100000, 8, .hold⟩] ∧
    (workStep (unitWorking [] true)).work = (unitWorking [] true).work ∧
    (workStep (workStep (unitWorking [] true))).work = none ∧
    (finishWork (unitWorking [] true)).cues.records = [⟨100000, 8, .hold⟩] ∧
    (performCueable .hold unit1).outcome = .done ∧
    (performCueable (.stop 0) unit1).outcome = .wrongState := by decide +kernel

/-- TurnsComeInAscendingOrder: a turn is next, and a request comes between two turns (R165). -/
theorem witness_TurnsComeInAscendingOrder :
    (workStep (unitWorking [3, 9] false)).work = (unitWorking [9] false).work ∧
    (after (.hold .broadcast) (workStep (unitWorking [3, 9] false))).work =
      (unitWorking [9] false).work ∧
    (workStep (unitWorking [9] false)).work = none ∧
    (unit1.setWork (unitWorking [3, 9] true).work).cues.records = [] := by decide +kernel

/-- R158: a CUE_CANCEL between two firings removes the record that has not fired. -/
theorem test_cancel_between_firings :
    ((doCueCancel 7 (workStep
      ((unitWorking [] true).setCues [⟨-5, 7, .hold⟩, ⟨-4, 7, .release⟩]))).state).cues.records = [] := by
  decide +kernel

/-- LaneUpdateSettlesTheLanes and RampReachesItsEndRate: a set, a held clock, a running clock, one at the
end of its range. -/
theorem witness_LaneUpdateSettlesTheLanes :
    (after (.skySet .broadcast 5) unit1).clock.pendingSky = some 5 ∧
    (after (.showSet .broadcast 5) unit1).clock.pendingShow = some 5 ∧
    (after (.run .broadcast) unit1).clock.state = .running ∧
    (after (.run .broadcast) unit1).clock.holdInForce = false ∧
    (after (.hold .broadcast) unit1).clock.softHold = true ∧
    (after (.skyRate .broadcast 7 3) unit1).clock.ramp = some ⟨1000, 7, 3, 0⟩ ∧
    (2 ^ 63 - 1 : Int) < maxInt64 + 1000 ∧
    (settleLanes (after (.skySet .broadcast 5) unit1)).clock.pendingSky = none ∧
    (settleLanes (after (.showSet .broadcast 5) unit1)).clock.pendingShow = none ∧
    unit1.cues.records = [] := by decide +kernel

/-- Two knots a microsecond apart, and an entry between them. -/
def knotA : KnotRef := ⟨0, ⟨0, 100⟩, 1⟩
def knotB : KnotRef := ⟨1, ⟨10, 200⟩, 1⟩
def entryAB : DirEntry := { DirEntry.absent with state := .complete, ends := some (knotA, knotB) }

/-- TableTargetLiesBetweenItsKnots: before, after, within with and without a pair. -/
theorem witness_TableTargetLiesBetweenItsKnots :
    entryAB.ends = some (knotA, knotB) ∧ (-1 : Int) < knotA.knot.time ∧ knotB.knot.time ≤ 10 ∧
    (Axis.reset.tableStage entryAB 0 5).2 = true ∧
    (({ Axis.reset with fetch := some fetch61 } : Axis).tableStage entryAB 0 5).2 = false := by
  decide +kernel

/-- A read axis 0 newly asks for, in TRACKING on table 20: an evaluation between the ends of `entryAB` with
four knots more between them. -/
def entryLong : DirEntry :=
  { entryAB with
    segments := [(1, 6)], total := 6, ends := some (knotA, { knotB with index := 5 }) }

/-- TableTargetLiesBetweenItsKnots: how a fetch starts, from each validity of the bracket. -/
theorem witness_FetchesStartFromTheBracket :
    ({ Axis.reset with bracket := .before } : Axis).tableStage entryLong 0 5 =
      ({ Axis.reset with
          bracket := .before, wanted := 5, stale := true, fetchState := .waiting
          fetch := some ⟨5, knotA, { knotB with index := 5 }, .stepUp⟩ }, false) ∧
    (({ Axis.reset with bracket := .after } : Axis).tableStage entryLong 0 5).1.fetch =
      some ⟨5, knotA, { knotB with index := 5 }, .stepDown⟩ ∧
    (Axis.reset.tableStage entryLong 0 (-1)).1.bracket = .before ∧
    (Axis.reset.tableStage entryLong 0 10).1.bracket = .after ∧
    (({ Axis.reset with bracket := .after, fetch := some fetch61 } : Axis).tableStage entryLong 0
      (-1)).1.bracket = .after := by decide +kernel

/-- `unit1` with axes 2 and 5 in TRACKING on table 20, which has six knots, and the port last served
axis 3. -/
def unitTracking : State :=
  let follow (a : Axis) : Axis := { a with state := .tracking, law := .table 20 0 }
  ({ unit1 with
     port := { unit1.port with lastServed := 3 }
     memory :=
       { unit1.memory with
         directory := unit1.memory.directory.set 20 { entryLong with state := .complete } } }.onAxis 2
    follow).onAxis 5 follow

/-- The lanes at 5 µs. -/
def update5 : LaneUpdate := { skyLane := 5, showLane := 5, skyMark := false, showMark := false }

/-- PortActsOnThePendingSet, R50: the read that joins an idle port is granted at that moment, so axis 2 is
served at its own turn, before axis 5 asks. -/
theorem test_idle_port_grants_at_once :
    (unitTracking.axis 2).fetchState ≠ .waiting ∧
    ((unitTracking.setAxis 2 ((unitTracking.axis 2).evaluate unitTracking update5)).axis 2).fetchState =
      .waiting ∧
    ((evaluateAxis update5 2 unitTracking).port.reading.map PortRead.axis) = some 2 ∧
    ((evaluateAxis update5 5 (evaluateAxis update5 2 unitTracking)).axis 5).fetchState = .waiting := by
  decide +kernel

/-- LinearLawSetsTheTarget, CoupledAndCuedLawsSetTheTarget: such laws, and heads of each case. -/
theorem witness_CoupledAndCuedLawsSetTheTarget :
    readLaw 1 1 (.linear 0 0 0) = .ok (.linear 0 0 0) ∧
    readLaw 1 3 (.coupled 0 1 1 0) = .ok (.coupled 0 1 1 0) ∧ readLaw 1 4 .empty = .ok .cued ∧
    (∀ m ∈ ([] : List Move) ++ [⟨5, 10⟩], m.arrival ≤ 10) ∧
    (({ position := 5, arrival := 10 } : Move).arrival ≤ 10) := by decide +kernel

/-- RebaseAndGearTransform: a rebase is due and made, and targets in range. -/
theorem witness_RebaseAndGearTransform :
    MotionConfig.reset.kind = .wrapping ∧ (Axis.reset.rebase true).w = 0 ∧
    (({ Axis.reset with rebaseDue := true, p := 2 ^ 40 } : Axis).rebase true).w = 2 ^ 40 ∧
    Axis.reset.gear.m = 0 := by decide +kernel

/-- VelocityStepKeepsItsLimits and TakeUpKeepsWithinItsBudget. -/
theorem witness_TakeUpKeepsWithinItsBudget :
    Axis.reset.motion.vmax ≤ 500 ∧ Axis.reset.v.natAbs ≤ Axis.reset.motion.vmax ∧
    -(Axis.reset.motion.backlash : Int) ≤ Axis.reset.lp ∧ Axis.reset.lp ≤ 0 ∧
    ({ Axis.reset with m := 100, v := -5 } : Axis).moveTowardTarget.lastDir = .positive ∧
    ({ Axis.reset with m := -100 } : Axis).moveTowardTarget.lastDir = .negative := by decide +kernel

/-- An axis with an accepted input. -/
def withInput (k : InputKind) (f : Axis → Axis) : State :=
  withAxis (fun a => f { a with filters := a.filters.put k ⟨some .low, .low, 0⟩ })

/-- TurnsDependOnTheState, HomingTurnFailsMovesOrCompletes: axes that have taken a stop since their last turn
and are in a state that moves. -/
theorem witness_StopsBeforeATurnAreMarked :
    let limited := (limitAxis 0 .limPos (inState .tracking)).axis 0
    let faulted := (takeCause .halt 0 (inState .ready)).axis 0
    limited.stopTaken = true ∧ limited.stopFromLimited.stopTaken = true ∧
    limited.stopFromLimited.state = .ready ∧ faulted.stopTaken = true ∧
    (Axis.reset.disable.enable.beginHoming false).stopTaken = true ∧
    (Axis.reset.disable.enable.beginHoming false).state = .homing ∧
    ((axisTurn update5 0 (takeCause .halt 0 (inState .ready))).axis 0).stopTaken = false := by
  decide +kernel

/-- spec/06, Worked sequence: the turn after the acceptance returns no axis whose M still lies beyond the
stop, hands 0, and leaves the stop behind it (R90, R104). -/
theorem test_turn_after_limit_entry :
    let held := (axisTurn update5 0 (limitAxis 0 .limPos (withAxis (fun a =>
      { a with state := .ready, v := 40, c := -200000 })))).axis 0
    held.state = .limited ∧ held.c = -200000 ∧ held.v = 0 ∧ held.output.window = none ∧
      held.stopTaken = false := by decide +kernel

/-- TurnsDependOnTheState: the tests at the start of a turn and the end stops. -/
theorem witness_TurnsDependOnTheState :
    ((withInput .drvFault id).axis 0).inputActive .drvFault = true ∧
    ((inState .ready).axis 0).inputActive .drvFault = false ∧
    ((inState .ready).axis 0).measured = none ∧
    (({ Axis.reset with
        sense := { SenseConfig.reset with encoderMode := .x4, followLimit := 1 }, c := 5 } : Axis)).measured
      = some 0 ∧
    ((withInput .limPos (fun a => { a with m := 5 })).axis 0).inputActive .limPos = true ∧
    ((withInput .limNeg (fun a => { a with m := -5 })).axis 0).inputActive .limNeg = true := by
  decide +kernel

/-- HomingTurnFailsMovesOrCompletes: beyond the travel limit, moving, and come to rest. -/
theorem witness_HomingTurnFailsMovesOrCompletes :
    (({ Axis.reset with
        homing := { Homing.reset with phase := .seekSwitch }, c := 2000001 } : Axis)).travelExceeded = true ∧
    homingAxis.travelExceeded = false ∧ homingAxis.homing.phase = .stopping ∧
    homingAxis.homingMove.v = 0 ∧ homingAxis.homing.reference.isSome = true ∧
    homingAxis.homing.switchPoint.isSome = true := by decide +kernel

/-- EnableDisableAndFaultAck: an ENABLE that passes, one after a Halt, inconsistent configs, a table that
is not usable. -/
theorem witness_EnableDisableAndFaultAck :
    enableRefusal (unit1.axis 0) unit1 = none ∧
    (after (.haltLineAcceptance .low)
      { unit1 with clock := { unit1.clock with haltLine := ⟨false, 4⟩ } }).clock.haltLine.active = true ∧
    ({ Axis.reset with motion := { MotionConfig.reset with softMin := 1, softMax := 0 } } :
      Axis).configsAgree = false ∧
    unit1.lawUsable (.table 3 0) = false := by decide +kernel

/-- TrackStopAndHomeFollowTheirTables, MoveAndFlushChangeTheMoveQueue: a law to track, a home mode, a
hold. -/
theorem witness_TrackStopAndHomeFollowTheirTables :
    trackRefusal { Axis.reset with state := .ready, law := .cued } = none ∧
    trackRefusal
      { Axis.reset with
        state := .ready, law := .cued, motion := { MotionConfig.reset with kind := .bounded } } =
      some .notHomed ∧
    (doHome 0 (withAxis (fun a =>
      { a with state := .ready, sense := { a.sense with homeMode := .switch } }))).outcome = .done ∧
    (doMove 0 0 0 (withAxis (fun a => { a with law := .cued }))).outcome = .done ∧
    (doMove 0 0 0 (withAxis (fun a =>
      { a with law := .cued, moves := List.replicate 8 ⟨0, 0⟩ }))).outcome = .queueFull := by decide +kernel

/-- AxisLawReplacesTheRecord: each check. -/
theorem witness_AxisLawReplacesTheRecord :
    [(doAxisLaw 0 5 .empty unit1).outcome, (doAxisLaw 0 2 (.table 64 0) unit1).outcome,
      (doAxisLaw 0 3 (.coupled 0 0 1 0) unit1).outcome, (doAxisLaw 0 3 (.coupled 0 1 1 0) unit1).outcome,
      (doAxisLaw 0 1 .empty unit1).outcome, (doAxisLaw 0 0 .empty (inState .tracking)).outcome,
      (doAxisLaw 0 2 (.table 63 0) (inState .ready)).outcome,
      (doAxisLaw 0 2 (.table 63 0) unit1).outcome, (doAxisLaw 1 3 (.coupled 0 1 1 0) unit1).outcome] =
    [.outOfRange, .outOfRange, .outOfRange, .couplingOrder, .badLength, .wrongState, .tableUnusable,
      .done, .done] := by decide +kernel

/-- Motion and sense fields in range. -/
def motion1 : MotionFields := ⟨1, 16777216, 1, 500, 250, 4095, 0, 0, 0, 1, 2⟩
def sense1 : SenseFields := ⟨3, 1, 16777216, 0, 2, 1, 500, 1, 0, ⟨1, 1, 1, 1⟩, ⟨15, 15, 15, 15⟩⟩

/-- AxisMotionConfigIsTakenInOff, AxisSenseConfigIsTakenInOff: fields at the ends of their ranges and
beyond. -/
theorem witness_AxisConfigsAreTakenInOff :
    (doAxisMotionConfig 0 motion1 unit1).outcome = .done ∧
    (doAxisMotionConfig 0 { motion1 with vmax := 501 } unit1).outcome = .doneClamped ∧
    (doAxisMotionConfig 0 { motion1 with steps := 16777217 } unit1).outcome = .outOfRange ∧
    (doAxisSenseConfig 0 sense1 unit1).outcome = .done ∧
    (doAxisSenseConfig 0 { sense1 with homeSpeed := 0 } unit1).outcome = .doneClamped ∧
    (doAxisSenseConfig 0 { sense1 with travelLimit := 0 } unit1).outcome = .outOfRange := by
  decide +kernel

/-- FaultCausesReachTheAxes, FilterSamplesAcceptOrCount, LimitAndHomeAcceptancesReachTheAxis: a sample
that completes a settling on the active level, one on the inactive level, one that completes nothing. -/
theorem witness_FilterSamplesAcceptOrCount :
    (∀ k, Axis.accepts k .low { Axis.reset with filters := ⟨⟨none, .low, 4⟩, ⟨none, .low, 4⟩,
      ⟨none, .low, 4⟩, ⟨none, .low, 4⟩⟩ }) ∧
    Completes 4 .high ⟨none, .high, 4⟩ ∧ ¬Completes 4 .high ⟨none, .high, 3⟩ ∧
    LineFilter.completes 4 .low ⟨false, 4⟩ ∧ LineFilter.completes 4 .high ⟨true, 4⟩ ∧
    ¬LineFilter.completes 4 .low ⟨false, 3⟩ := by
  refine ⟨fun k => ?_, ?_⟩
  · cases k <;>
      simp [Axis.accepts, Completes, PerInput.get, Axis.reset, SenseConfig.reset]
  · simp [Completes, LineFilter.completes, Level.asserted]

/-- EncoderTransitionsCountEdges, IndexEventsAreCapturedOrCounted, PendingCapturesAreKeptUntilCarried: a
pair seen, an index level seen low, a capture pending. -/
theorem witness_IndexEventsAreCapturedOrCounted :
    (∀ s : State, s = after (.indexEvent 0 .high) (after (.indexEvent 0 .low)
        (withAxis (fun a => { a with sense := { a.sense with encoderMode := .x4 } }))) →
      (s.axis 0).encoder.capture.pending = true) ∧
    ((after (.encoderTransition 0 .low .low) unit1).axis 0).encoder.pair = some (.low, .low) ∧
    ((after (.indexEvent 0 .low) unit1).axis 0).encoder.index = some .low := by
  refine ⟨?_, ?_⟩
  · rintro s rfl; decide +kernel
  · decide +kernel

/-- StepPulsesFollowTheWindow: windows due, waiting, at their last pulse. -/
theorem witness_StepPulsesFollowTheWindow :
    (Output.startUp.openWindow 2).window = some ⟨.positive, 2, true, 0⟩ ∧
    ({ Output.startUp with step := true }.openWindow (-2)).window = some ⟨.negative, 2, false, 0⟩ ∧
    (Output.startUp.openWindow 1).pulseBegin.step = true ∧
    (Output.startUp.openWindow 1).pulseBegin.window = some ⟨.positive, 1, true, 1⟩ := by decide +kernel

/-- CuesJoinInFiringOrder: each outcome. -/
theorem witness_CuesJoinInFiringOrder :
    cueableKind 0x15 = false ∧ cueableKind 0x2B = false ∧ sizeOf 0x03 1 = false ∧
    ((doCue 0 0 0x01 [] unit1).outcome, (doCue 0 0 0x03 [0] unit1).outcome,
      (doCue 0 0 0x03 [] unit1).outcome,
      (doCue 0 0 0x03 [] (unit1.setCues (List.replicate 32 ⟨0, 0, .hold⟩))).outcome) =
    (.notCueable, .badLength, .done, .queueFull) := by decide +kernel

/-- ClearRemovesWhatItNames: a cause raised on one axis joins its set alone, and asserts the line. -/
theorem witness_RaisedCausesAssertTheLine :
    unit1.attentionLine = false ∧ (unit1.raise (.limit 15)).attentionLine = true ∧
    inSet (unit1.raise (.limit 15)).link.attention.limit 15 = true ∧
    inSet (unit1.raise (.limit 15)).link.attention.limit 14 = false ∧
    inSet (unit1.raise (.limit 15)).link.attention.capture 15 = false := by decide +kernel

/-- A unit whose axis 0 waits for a read of table 20, which lies in segment 120. -/
def unitWaiting : State :=
  { unit1 with
    memory :=
      { unit1.memory with
        directory := unit1.memory.directory.set 20
          { DirEntry.absent with state := .complete, segments := [(120, 63)], total := 63 } } }.onAxis 0
    (fun a => { a with law := .table 20 0, fetch := some fetch61, fetchState := .waiting })

/-- GrantsGoInServiceOrder, ReadCompletionsNarrowTheFetch, PortActsOnThePendingSet. -/
theorem witness_GrantsGoInServiceOrder :
    (unitWaiting.readTarget 0).isSome = true ∧ unitWaiting.waiting 0 = true ∧
    unitWaiting.port.reading = none ∧ unitWaiting.memory.engine = .idle ∧
    unitWaiting.port.lastServed = 15 ∧ fetch61.low.index + 1 < fetch61.high.index ∧
    fetch61.low.knot.time ≤ fetch61.time ∧ fetch61.time < fetch61.high.knot.time ∧
    unitRewriting.port.reading = some ⟨0, 30, 1, 2⟩ ∧
    (unitRewriting.axis 0).fetchState = .granted ∧ (unitRewriting.axis 0).fetch = some fetch61 ∧
    (after (.unitSettings .broadcast 1 0 4 4) unitWaiting).clock.settings.policy = .defer := by
  decide +kernel

/-- StagingRequestsFillTheBuffer, CommitIsCheckedInOrder: each outcome, and slots at the ends. -/
theorem witness_CommitIsCheckedInOrder :
    ((doStageHeader 63 15 63 1 unit1).outcome, (doStageHeader 64 0 1 0 unit1).outcome,
      (doStageHeader 0 0 1 0 unitRewriting).outcome, (doStageKnots 62 [⟨0, 0⟩] unit1).outcome,
      (doStageKnots 62 [⟨0, 0⟩, ⟨0, 0⟩] unit1).outcome) =
    (.done, .outOfRange, .stagingBusy, .done, .outOfRange) ∧
    ((doCommit 256 0 unitStaged).outcome, (doCommit 0 0 unitRewriting).outcome,
      (doCommit 255 0 unitStaged).outcome, (doCommit 0 0 unit1).outcome,
      (doAbortRewrite unit1).outcome, (doAbortRewrite unitRewriting).outcome,
      (doAbortRewrite (rewritingIn .eraseSuspended)).outcome) =
    (.outOfRange, .rewriteBusy, .done, .incomplete, .wrongState, .done, .done) := by decide +kernel

/-- A COMMIT of a disordered image, and one of a table in use. -/
theorem witness_CommitIsRefused :
    (doCommit 0 0 { unit1 with
      memory :=
        { unit1.memory with
          staging := { header := some ⟨1, 0, 2, true⟩, slots := [(0, ⟨5, 6⟩), (1, ⟨5, 6⟩)] } } }).outcome =
      .disorder ∧
    (doCommit 0 1 ({ unitStaged with
      memory :=
        { unitStaged.memory with
          directory := unit1.memory.directory.set 20 { DirEntry.absent with bound := 1 } } }.onAxis 0
      (fun a => { a with state := .ready }))).outcome = .segInUse := by decide +kernel

/-- QueriesCarryTheirParts, ClearRemovesWhatItNames: parts at the ends of their pages. -/
theorem witness_QueriesCarryTheirParts :
    [(doStatusQuery 0 1 unit1).outcome, (doStatusQuery 1 1 unit1).outcome,
      (doAxisQuery 0 1 3 unit1).outcome, (doAxisQuery 0 1 4 unit1).outcome,
      (doAxisQuery 0 2 0 unit1).outcome, (doTableQuery 63 1 unit1).outcome,
      (doTableQuery 64 0 unit1).outcome, (doSegmentQuery 255 unit1).outcome,
      (doSegmentQuery 256 unit1).outcome] =
    [.done, .outOfRange, .done, .outOfRange, .outOfRange, .done, .outOfRange, .done, .outOfRange] := by
  decide +kernel

/-- QueriesCarryTheirParts, the bytes: a bracket with a pair, a rewrite in hand, and the worked bytes of a
pair and of a BUSY segment by spec/12. -/
theorem witness_QueriesCarryTheirBytes :
    ({ Axis.reset with bracket := .pair knotA knotB } : Axis).bracket = .pair knotA knotB ∧
    axisPair { Axis.reset with bracket := .pair knotA knotB } =
      [0, 0, 0, 0, 0, 0, 0, 0, 0, 0, 0, 0, 0, 0, 0, 0, 0, 100, 1,
       0, 1, 0, 0, 0, 0, 0, 0, 0, 10, 0, 0, 0, 0, 0, 0, 0, 200, 1] ∧
    unitRewriting.memory.rewrite.isSome = true ∧
    (segmentField unitRewriting.memory .busy).drop 37 = [1, 0] ∧
    ([(40, 63)] : List (Nat × Nat)).length ≤ 16 := by decide +kernel

/-- ForwardCharactersAreRepeatedAndAssembled, FrameEndsAreTestedInOrder: a frame in hand that is taken,
one that is not, a good one, one with a wrong check, one too short. -/
theorem witness_FrameEndsAreTestedInOrder :
    (after (.showInCharacter ⟨1, true, true⟩) unit1).link.frame = some ⟨1, true, [1], false⟩ ∧
    (after (.showInCharacter ⟨2, true, true⟩) unit1).link.frame = some ⟨2, false, [], false⟩ ∧
    (after (.frameEnd 1) (unit1.setFrame (some syncFrame))) = unit1 ∧
    (after (.frameEnd 1) (unit1.setFrame (some
      { syncFrame with chars := [31, 2, 0, 0, 0] }))).link.checkErrors = 1 ∧
    (after (.frameEnd 1) (unit1.setFrame (some
      { syncFrame with chars := [31, 2, 0] }))).link.framingErrors = 1 := by decide +kernel

/-- ReturnCharactersAreRelayedOrBuffered, OwnRepliesStartAndEnd: a unit that replies, one in its gap. -/
theorem witness_OwnRepliesStartAndEnd :
    (after .ownReplyStart (after (.run .addressed) unit1)).link.sending = true ∧
    (after (.ownReplyEnd 1) (after .ownReplyStart (after (.run .addressed) unit1))).link.relay = .gap ∧
    (after (.returnInCharacter ⟨1, true, true⟩)
      (after .ownReplyStart (after (.run .addressed) unit1))).link.returnBuffer =
        [.char ⟨1, true, true⟩] ∧
    (after (.ownReplyEnd 7) (after .ownReplyStart
      (after (.unitReset .addressed 1) unit1))).link.ownAddress = 7 := by decide +kernel

/-- RequestsAreReadBackFromTheirBytes: a request a frame can carry. -/
theorem witness_RequestsAreReadBackFromTheirBytes :
    Request.wf (.stageKnots 0 [⟨1, 2⟩, ⟨3, 4⟩, ⟨5, 6⟩]) = true ∧
    Request.wf (.cue 0 0 0x03 (List.replicate 48 0)) = true := by decide +kernel

/-- The statements of what every step keeps: reset meets the invariants of one axis, and a step
answers. -/
theorem witness_invariants :
    EveryAxis Axis.motionSound State.reset ∧
    EveryAxis (fun a => a.clampSound ∧ a.wrapSound) State.reset ∧
    EveryAxis Axis.movesSound State.reset ∧ CueQueueSound State.reset ∧
    CouplingSound State.reset ∧ ReadsSound State.reset ∧ LinkSound State.reset ∧
    MemorySound State.reset ∧ MarkerSound State.reset ∧ WorkSound State.reset ∧
    GrantsSound State.reset ∧ ScanningSound State.reset ∧ step State.reset = .next State.reset := by
  have ha : ∀ i : AxisIdx, State.reset.axis i = Axis.reset := by decide +kernel
  refine ⟨fun i => ?_, fun i => ?_, fun i => ?_, ?_, ?_, ?_, ?_, ?_, ?_, ?_, ?_, ?_, rfl⟩
  · rw [ha]
    simp [Axis.motionSound, Axis.reset, MotionConfig.reset, InInt64, minInt64, maxInt64, Output.startUp]
  · rw [ha]
    simp [Axis.clampSound, Axis.wrapSound, Axis.reset, MotionConfig.reset]
  · rw [ha]
    simp [Axis.movesSound, Axis.reset]
  · unfold CueQueueSound; decide +kernel
  · intro i
    rw [ha]
    simp [Axis.reset]
  · refine ⟨fun i => ?_, fun i => ?_⟩ <;> rw [ha] <;>
      simp [Axis.atPort, Axis.reset, State.reset, TablePort.reset]
  · simp [LinkSound, State.reset, LinkPort.reset, LinkPort.buffered, replyCapacity]
  · simp [MemorySound, State.reset, TableMemory.powerOn, TableMemory.wf, imagesWf, recordsWf, keysRise]
  · refine ⟨fun k h => absurd h ?_, fun r h => absurd h ?_⟩ <;>
      simp [State.reset, TableMemory.powerOn, TableMemory.image, sparseGet, SegmentImage.erased]
  · intro w h
    simp [State.reset] at h
  · refine ⟨fun i r h => absurd h ?_, fun _ i => ?_⟩
    · simp [State.askedRead, State.waiting, ha, Axis.reset]
    · rw [ha]; rfl
  · unfold ScanningSound; decide +kernel

/-- A unit with table 20 in segment 120, COMPLETE, and axis 0 in READY on it. -/
def unitTable : State :=
  after (.enable .broadcast 0) (after (.axisLaw .broadcast 0 2 (.table 20 0))
    (after (.programCompletion true) (rewritingIn .programming)))

/-- TablesInUseListOnlyValidSegments, EveryStepKeepsTheTablesInUse: a table in use, with all the
invariants. -/
theorem witness_TablesInUseListOnlyValidSegments :
    TablesSound unitTable ∧ (unitTable.axis 0).state = .ready ∧
    (unitTable.axis 0).law.tableId = some 20 ∧ (unitTable.entry 20).segments = [(120, 1)] := by
  have hr : unitTable.memory.rewrite = none := by decide +kernel
  refine ⟨⟨⟨by decide +kernel, by simp [hr]⟩, ?_, ?_, ⟨by decide +kernel, by simp [hr]⟩, ?_, ?_⟩, ?_⟩
  · unfold BoundSound; decide +kernel
  · unfold DirectorySound; decide +kernel
  · unfold ScanningSound; decide +kernel
  · unfold TablesInUseSound; decide +kernel
  · decide +kernel

/-- ReadCompletionsNarrowTheFetch, AxisLawReplacesTheRecord, EnableDisableAndFaultAck,
RequestsAreTestedInOrder: a slot that holds its knot, a table in a rewrite, one that is usable, and a request
that a frame spells. -/
theorem witness_NamedOperationsAreReached :
    (unitTable.knotAt ⟨0, 0, 120, 0⟩).knot = ⟨5, 6⟩ ∧
    (sparseGet 0 (unitTable.memory.image 120).slots).isSome = true ∧
    unitRewriting.memory.concerns 20 = true ∧ unitTable.memory.usable 20 = true ∧
    ({ fetch61 with phase := .stepDown } : Fetch).nextIndex = 60 ∧
    takeRequest .broadcast 0x03 (some (.cueable .hold)) unit1 = after (.hold .broadcast) unit1 ∧
    isQueryKind 0x33 = true ∧ isQueryKind 0x38 = false := by decide +kernel

end Sys2Proof.Tests
end

section
/-! The arithmetic of the limiter and the take-up (spec/05): bounds of the velocity step, of C and of Lp, and
the statement about the take-up (O21). -/

namespace Sys2Proof.Machine

/-! ### Clamping and saturation -/

theorem le_clamp {x a b : Int} (h : a ≤ b) : a ≤ clamp x a b := by
  unfold clamp; split <;> [skip; split] <;> omega

theorem clamp_le {x a b : Int} (h : a ≤ b) : clamp x a b ≤ b := by
  unfold clamp; split <;> [skip; split] <;> omega

/-- A value of the range is no clamp's work; the values at the ends stand for those beyond. -/
theorem clamp_cases (x a b : Int) :
    clamp x a b = x ∧ a ≤ x ∧ x ≤ b ∨ clamp x a b = a ∧ x < a ∨ clamp x a b = b ∧ a ≤ x ∧ b < x := by
  unfold clamp; split <;> [skip; split] <;> omega

theorem sat64_inInt64 (x : Int) : InInt64 (sat64 x) :=
  ⟨le_clamp (by decide), clamp_le (by decide)⟩

theorem sat64_mono {x y : Int} (h : x ≤ y) : sat64 x ≤ sat64 y := by
  have hx := clamp_cases x minInt64 maxInt64
  have hy := clamp_cases y minInt64 maxInt64
  have : minInt64 ≤ maxInt64 := by decide
  unfold sat64
  omega

/-- What a saturating C keeps of a velocity has its sign and no more than its size (R82). -/
theorem sat64_add_sub {c : Int} (hc : InInt64 c) (v : Int) :
    (sat64 (c + v) - c).natAbs ≤ v.natAbs := by
  have h := clamp_cases (c + v) minInt64 maxInt64
  obtain ⟨h₁, h₂⟩ := hc
  unfold sat64
  omega

/-! ### The velocity step -/

theorem wishedVelocity_natAbs_le (vmax amax : Nat) (d : Int) :
    (wishedVelocity vmax amax d).natAbs ≤ vmax := by
  have hs : (sign d).natAbs ≤ 1 := by unfold sign; split <;> [skip; split] <;> decide
  rw [wishedVelocity, Int.natAbs_mul, Int.natAbs_natCast]
  calc (sign d).natAbs * min vmax (min d.natAbs (isqrt (2 * amax * d.natAbs)))
      ≤ 1 * vmax := Nat.mul_le_mul hs (Nat.min_le_left _ _)
    _ = vmax := Nat.one_mul _

/-- A step toward a goal within a bound stays within the bound. -/
theorem approach_natAbs_le {amax n : Nat} {v goal : Int} (hv : v.natAbs ≤ n) (hg : goal.natAbs ≤ n) :
    (approach amax v goal).natAbs ≤ n := by
  have h := clamp_cases (goal - v) (-(amax : Int)) amax
  unfold approach
  omega

/-- Law 2: the velocity step stays within Vmax (R80, R81). -/
theorem velocityStep_natAbs_le {vmax amax : Nat} {v : Int} (d : Int) (hv : v.natAbs ≤ vmax) :
    (velocityStep vmax amax d v).natAbs ≤ vmax := by
  have h := approach_natAbs_le (amax := amax) hv (wishedVelocity_natAbs_le vmax amax d)
  unfold velocityStep landingClamp
  split <;> omega

/-! ### The take-up -/

/-- The take-up as the last direction has it (R86). -/
theorem takeUp_eq (backlash : Nat) (dir : Sense) {lp v : Int} (h₁ : -(backlash : Int) ≤ lp) (h₂ : lp ≤ 0)
    (hv : v.natAbs ≤ 500) :
    takeUp backlash dir lp v =
      match dir with
      | .positive => min (-lp) (500 - v.natAbs)
      | .negative => -min (lp + backlash) (500 - v.natAbs) := by
  cases dir with
  | positive => simp only [takeUp, lashEnd, Sense.unit]; omega
  | negative => simp only [takeUp, lashEnd, Sense.unit]; omega

/-- Laws 1 and 2 of a take-up: Lp stays within the lash, and it moves with the velocity, so that the count is
the sum of the two ways and within 500 (R85, R86). -/
theorem takeUpLash_bounds {a : Axis} (h₁ : -(a.motion.backlash : Int) ≤ a.lp) (h₂ : a.lp ≤ 0)
    (hv : a.v.natAbs ≤ 500) :
    -(a.motion.backlash : Int) ≤ a.takeUpLash.lp ∧ a.takeUpLash.lp ≤ 0 ∧
      (a.v + (a.takeUpLash.lp - a.lp)).natAbs = a.v.natAbs + (a.takeUpLash.lp - a.lp).natAbs ∧
      (a.v + (a.takeUpLash.lp - a.lp)).natAbs ≤ 500 := by
  have hlp : a.takeUpLash.lp =
      a.lp + takeUp a.motion.backlash (afterReversal a.v a.lastDir) a.lp a.v := rfl
  rw [takeUp_eq _ _ h₁ h₂ hv] at hlp
  have hdir : a.v < 0 → afterReversal a.v a.lastDir = .negative := fun h => by simp [afterReversal, h]
  have hdir' : 0 < a.v → afterReversal a.v a.lastDir = .positive := fun h => by
    simp [afterReversal, h, show ¬a.v < 0 by omega]
  cases hd : afterReversal a.v a.lastDir with
  | positive =>
    have : 0 ≤ a.v := not_lt.1 fun h => by simp [hdir h] at hd
    simp only [hd] at hlp
    omega
  | negative =>
    have : a.v ≤ 0 := not_lt.1 fun h => by simp [hdir' h] at hd
    simp only [hd] at hlp
    omega

/-- Lp after a take-up, for each last direction (R86). -/
theorem takeUpLash_lp {a : Axis} (h₁ : -(a.motion.backlash : Int) ≤ a.lp) (h₂ : a.lp ≤ 0)
    (hv : a.v.natAbs ≤ 500) :
    (a.takeUpLash.lastDir = .positive →
        a.takeUpLash.lp = a.lp + min (-a.lp) (500 - a.v.natAbs)) ∧
      (a.takeUpLash.lastDir = .negative →
        a.takeUpLash.lp = a.lp - min (a.lp + a.motion.backlash) (500 - a.v.natAbs)) := by
  have hlp : a.takeUpLash.lp =
      a.lp + takeUp a.motion.backlash a.takeUpLash.lastDir a.lp a.v := rfl
  rw [takeUp_eq _ _ h₁ h₂ hv] at hlp
  constructor <;> intro hd <;> simp only [hd] at hlp <;> omega

/-! ### The motion of a turn -/

/-- The velocity a driven turn asks for (R80). -/
def Axis.nextVelocity (a : Axis) : Int := velocityStep a.motion.vmax a.motion.amax (a.m - a.c) a.v

/-- The axis of a driven turn before its take-up: C and v made, the LAG flag tested. -/
def Axis.driven (a : Axis) : Axis := (a.drive a.nextVelocity).testLag

theorem moveTowardTarget_eq (a : Axis) : a.moveTowardTarget = a.driven.takeUpLash := rfl

/-- What the drive of a velocity within a bound leaves: the velocity within it and C in its range (R82). -/
theorem drive_bounds {a : Axis} {x : Int} {n : Nat} (hc : InInt64 a.c) (hx : x.natAbs ≤ n) :
    (a.drive x).v.natAbs ≤ n ∧ InInt64 (a.drive x).c :=
  ⟨le_trans (sat64_add_sub hc x) hx, sat64_inInt64 _⟩

theorem driven_v_natAbs_le {a : Axis} (hc : InInt64 a.c) (hv : a.v.natAbs ≤ a.motion.vmax) :
    a.driven.v.natAbs ≤ a.motion.vmax :=
  (drive_bounds hc (velocityStep_natAbs_le _ hv)).1

/-- Settles O21, by the bounds of the take-up's clamps. -/
theorem takeUpKeepsWithinItsBudget : Obligations.TakeUpKeepsWithinItsBudget := by
  refine ⟨fun _ _ => rfl, ?_, ?_⟩
  · rintro a _ rfl hv h₁ h₂
    exact ⟨rfl, rfl, takeUpLash_lp h₁ h₂ hv⟩
  · rintro a _ rfl hmax hv hc₁ hc₂ h₁ h₂
    have hc : InInt64 a.c := ⟨hc₁, by unfold maxInt64; omega⟩
    have hv' : a.driven.v.natAbs ≤ 500 := le_trans (driven_v_natAbs_le hc hv) hmax
    obtain ⟨hlow, hhigh, hsum, htop⟩ := takeUpLash_bounds (a := a.driven) h₁ h₂ hv'
    obtain ⟨hpos, hneg⟩ := takeUpLash_lp (a := a.driven) h₁ h₂ hv'
    refine ⟨rfl, hlow, hhigh, hpos, hneg, rfl, hsum, htop, ?_, rfl⟩
    show (decide _ && decide _) = true ↔ _
    simp only [Bool.and_eq_true, decide_eq_true_eq]
    rfl

end Sys2Proof.Machine
end

section
/-! The law stage of a TABLE axis (spec/03), and the statement about it (O17). -/

namespace Sys2Proof.Machine

/-! ### The value between two knots -/

/-- Law 10: a value between two knots lies between their angles (R24). -/
theorem interpolate_bounds {low high : Knot} {t : Int} (h₁ : low.time ≤ t) (h₂ : t < high.time) :
    min low.angle high.angle ≤ interpolate low high t ∧
      interpolate low high t ≤ max low.angle high.angle := by
  have hT : 0 < high.time - low.time := by omega
  have hq : floorQuot ((t - low.time) * (high.angle - low.angle)) (high.time - low.time) =
      (t - low.time) * (high.angle - low.angle) / (high.time - low.time) :=
    Int.fdiv_eq_ediv_of_nonneg _ hT.le
  have hx : 0 ≤ t - low.time := by omega
  have hxT : t - low.time ≤ high.time - low.time := by omega
  unfold interpolate
  rw [hq]
  rcases le_total low.angle high.angle with h | h
  · have hd : 0 ≤ high.angle - low.angle := by omega
    have hlow := Int.ediv_nonneg (mul_nonneg hx hd) hT.le
    have hhigh : (t - low.time) * (high.angle - low.angle) / (high.time - low.time) ≤
        high.angle - low.angle :=
      Int.ediv_le_of_le_mul hT (by nlinarith)
    omega
  · have hlow : high.angle - low.angle ≤
        (t - low.time) * (high.angle - low.angle) / (high.time - low.time) :=
      (Int.le_ediv_iff_mul_le hT).2 (by nlinarith)
    have hhigh : (t - low.time) * (high.angle - low.angle) / (high.time - low.time) ≤ 0 :=
      Int.ediv_le_of_le_mul hT (by nlinarith)
    omega

/-- The same of the saturated sums with an offset. -/
theorem sat64_interpolate_bounds {low high : Knot} {t : Int} (offset : Int) (h₁ : low.time ≤ t)
    (h₂ : t < high.time) :
    min (sat64 (offset + low.angle)) (sat64 (offset + high.angle)) ≤
        sat64 (offset + interpolate low high t) ∧
      sat64 (offset + interpolate low high t) ≤
        max (sat64 (offset + low.angle)) (sat64 (offset + high.angle)) := by
  obtain ⟨hlow, hhigh⟩ := interpolate_bounds h₁ h₂
  rcases le_total low.angle high.angle with h | h
  · rw [min_eq_left h] at hlow
    rw [max_eq_right h] at hhigh
    exact ⟨min_le_of_left_le (sat64_mono (by omega)), le_max_of_le_right (sat64_mono (by omega))⟩
  · rw [min_eq_right h] at hlow
    rw [max_eq_left h] at hhigh
    exact ⟨min_le_of_right_le (sat64_mono (by omega)), le_max_of_le_left (sat64_mono (by omega))⟩

/-! ### Brackets and fetches -/

theorem Bracket.holds_iff (t : Int) (b : Bracket) :
    b.holds t = true ↔ ∃ low high, b = .pair low high ∧ low.knot.time ≤ t ∧ t < high.knot.time := by
  cases b <;> simp [Bracket.holds]

/-- A fetch lies over its search time. -/
def Fetch.Spans (f : Fetch) : Prop := f.low.knot.time ≤ f.time ∧ f.time < f.high.knot.time

theorem startFetch_time (first last : KnotRef) (t : Int) (b : Bracket) :
    (b.startFetch first last t).time = t := by
  cases b with
  | pair low high => simp only [Bracket.startFetch]; split <;> rfl
  | _ => rfl

/-- A fetch that starts from a bracket without the time lies over it (R44). -/
theorem startFetch_spans {first last : KnotRef} {t : Int} {b : Bracket} (h₁ : first.knot.time ≤ t)
    (h₂ : t < last.knot.time) (hb : b.holds t = false) : (b.startFetch first last t).Spans := by
  cases b with
  | pair low high =>
    simp only [Bracket.startFetch]
    split
    · exact ⟨‹_›, h₂⟩
    · simp only [Bracket.holds, Bool.and_eq_false_iff, decide_eq_false_iff_not] at hb
      exact ⟨h₁, by show t < low.knot.time; omega⟩
  | _ => exact ⟨h₁, h₂⟩

/-- The knots and the phase a fetch starts with, for each validity of the bracket (R44). -/
theorem startFetch_cases (first last : KnotRef) (t : Int) (b : Bracket) :
    let f := b.startFetch first last t
    (b = .none → f.low = first ∧ f.high = last ∧ f.phase = .search) ∧
      (b = .before → f.low = first ∧ f.high = last ∧ f.phase = .stepUp) ∧
      (b = .after → f.low = first ∧ f.high = last ∧ f.phase = .stepDown) ∧
      ∀ low high, b = .pair low high →
        (high.knot.time ≤ t → f.low = high ∧ f.high = last ∧ f.phase = .stepUp) ∧
        (t < high.knot.time → f.low = first ∧ f.high = low ∧ f.phase = .stepDown) := by
  cases b with
  | pair low high =>
    by_cases h : high.knot.time ≤ t
    · simp +contextual [Bracket.startFetch, h, not_lt.2 h]
    · simp +contextual [Bracket.startFetch, h, not_le.1 h]
  | _ => simp [Bracket.startFetch]

/-- A fetch between neighbours ends at once with its pair (R44). -/
theorem beginFetch_of_isPair {f : Fetch} (h : f.isPair = true) (a : Axis) :
    a.beginFetch f = { a with bracket := .pair f.low f.high, fetch := none } := by
  simp [Axis.beginFetch, Axis.holdFetch, h]

/-- Any other fetch asks for a read, at once where no discarded read still runs (R44, R49). -/
theorem beginFetch_of_not_isPair {f : Fetch} (h : f.isPair = false) (a : Axis) :
    a.beginFetch f =
      if a.fetchState = .discarding then { a with fetch := some f }
      else { a with fetch := some f, fetchState := .waiting, stallCounted := false } := by
  simp [Axis.beginFetch, Axis.holdFetch, h]

/-! ### The stage, place by place -/

section
variable {e : DirEntry} {offset t : Int} {a : Axis} {first last : KnotRef}

theorem tableStage_before (he : e.ends = some (first, last)) (h : t < first.knot.time) :
    a.tableStage e offset t =
      ((a.setTableTarget offset first.knot.angle true).noteOffTable .before, true) := by
  simp [Axis.tableStage, he, h]

theorem tableStage_after (he : e.ends = some (first, last)) (h₁ : first.knot.time ≤ t)
    (h₂ : last.knot.time ≤ t) :
    a.tableStage e offset t =
      ((a.setTableTarget offset last.knot.angle true).noteOffTable .after, true) := by
  simp [Axis.tableStage, he, not_lt.2 h₁, h₂]

theorem tableStage_held (he : e.ends = some (first, last)) (h₁ : first.knot.time ≤ t)
    (h₂ : t < last.knot.time) (hb : a.bracket.holds t = true) :
    a.tableStage e offset t = (a.setTableTarget offset (a.bracket.value t) false, true) := by
  simp [Axis.tableStage, he, not_lt.2 h₁, not_le.2 h₂, hb]

theorem tableStage_fetching (he : e.ends = some (first, last)) (h₁ : first.knot.time ≤ t)
    (h₂ : t < last.knot.time) (hb : a.bracket.holds t = false) (hf : a.fetch ≠ none) :
    a.tableStage e offset t = ({ a with wanted := t, stale := true }, false) := by
  simp [Axis.tableStage, he, not_lt.2 h₁, not_le.2 h₂, hb, hf]

/-- With no fetch in hand one starts: its pair gives P at once, or P is kept until its reads come (R44). -/
theorem tableStage_starting (he : e.ends = some (first, last)) (h₁ : first.knot.time ≤ t)
    (h₂ : t < last.knot.time) (hb : a.bracket.holds t = false) (hf : a.fetch = none) :
    a.tableStage e offset t =
      let f := a.bracket.startFetch first last t
      let a₁ := { a with wanted := t }.beginFetch f
      if f.isPair then
        (a₁.setTableTarget offset (interpolate f.low.knot f.high.knot t) false, true)
      else ({ a₁ with stale := true }, false) := by
  have hspan := startFetch_spans h₁ h₂ hb
  unfold Fetch.Spans at hspan
  rw [startFetch_time] at hspan
  simp only [Axis.tableStage, he, not_lt.2 h₁, not_le.2 h₂, hb, hf]
  generalize a.bracket.startFetch first last t = f at hspan
  cases hp : f.isPair with
  | true => simp [beginFetch_of_isPair hp, Bracket.holds, Bracket.value, hspan]
  | false => by_cases hd : a.fetchState = .discarding <;> simp [beginFetch_of_not_isPair hp, hd, hb]

end

theorem noteOffTable_frame (b : Bracket) (a : Axis) :
    a.noteOffTable b = { a with bracket := if a.fetch = none then b else a.bracket } := by
  unfold Axis.noteOffTable; split <;> rfl

/-- What a bracket that holds the time gives P (R24, law 10). -/
theorem held_value {t offset : Int} {b : Bracket} (h : b.holds t = true) :
    ∃ low high, b = .pair low high ∧ low.knot.time ≤ t ∧ t < high.knot.time ∧
      b.value t = interpolate low.knot high.knot t ∧
      min (sat64 (offset + low.knot.angle)) (sat64 (offset + high.knot.angle)) ≤
        sat64 (offset + b.value t) ∧
      sat64 (offset + b.value t) ≤
        max (sat64 (offset + low.knot.angle)) (sat64 (offset + high.knot.angle)) := by
  obtain ⟨low, high, rfl, h₁, h₂⟩ := (Bracket.holds_iff t b).1 h
  exact ⟨low, high, rfl, h₁, h₂, rfl, sat64_interpolate_bounds offset h₁ h₂⟩

/-- Settles O17, by the place of the time: before the table, after it, in the bracket's pair, or between,
with a fetch in hand or one that starts. -/
theorem tableTargetLiesBetweenItsKnots : Obligations.TableTargetLiesBetweenItsKnots := by
  refine ⟨fun s t a => ⟨fun h => by simp [Axis.lawStage, h], fun id offset h => by
    simp [Axis.lawStage, h]⟩, ?_⟩
  intro e offset t a b set first last he hb
  by_cases hbefore : t < first.knot.time
  · rw [tableStage_before he hbefore, noteOffTable_frame] at hb
    cases hb
    refine ⟨fun _ => ⟨rfl, rfl, rfl, rfl, rfl⟩, fun h => by omega, fun _ => ⟨rfl, rfl, rfl⟩,
      fun h => by omega, rfl⟩
  have h₁ : first.knot.time ≤ t := not_lt.1 hbefore
  by_cases hafter : last.knot.time ≤ t
  · rw [tableStage_after he h₁ hafter, noteOffTable_frame] at hb
    cases hb
    refine ⟨fun h => by omega, fun _ _ => ⟨rfl, rfl, rfl, rfl, rfl⟩, fun _ => ⟨rfl, rfl, rfl⟩,
      fun _ h => by omega, rfl⟩
  have h₂ : t < last.knot.time := not_le.1 hafter
  refine ⟨fun h => by omega, fun _ h => by omega, fun h => by omega, ?_⟩
  cases hheld : a.bracket.holds t with
  | true =>
    rw [tableStage_held he h₁ h₂ hheld] at hb
    cases hb
    obtain ⟨low, high, hpair, hlow, hhigh, hvalue, hmin, hmax⟩ := held_value (offset := offset) hheld
    refine ⟨fun _ _ => ⟨fun _ => ⟨low, high, hpair, hlow, hhigh, ?_, rfl, rfl, hmin, hmax⟩,
      fun h => (Bool.noConfusion h), fun _ _ _ _ _ => ⟨rfl, rfl, rfl, rfl, rfl⟩, fun h => ?_⟩, rfl⟩
    · show sat64 (offset + a.bracket.value t) = _
      rw [hvalue]; rfl
    · have := h low high hpair
      omega
  | false =>
    have hmiss : ∀ low high, a.bracket = .pair low high → low.knot.time ≤ t → ¬t < high.knot.time :=
      fun low high hpair hlow hhigh => by
        rw [(Bracket.holds_iff t _).2 ⟨low, high, hpair, hlow, hhigh⟩] at hheld; cases hheld
    cases hf : a.fetch with
    | some f =>
      rw [tableStage_fetching he h₁ h₂ hheld (by simp [hf])] at hb
      cases hb
      refine ⟨fun _ _ => ⟨fun h => (Bool.noConfusion h), fun _ => ⟨rfl, rfl, rfl, rfl, by simp [hf]⟩,
        fun low high hpair hlow hhigh => absurd hhigh (hmiss low high hpair hlow),
        fun _ => ⟨fun _ => ⟨rfl, rfl, hf, rfl⟩, fun h => by simp at h⟩⟩, rfl⟩
    | none =>
      have hspan := startFetch_spans h₁ h₂ hheld
      have htime := startFetch_time first last t a.bracket
      have hstart := startFetch_cases first last t a.bracket
      rw [tableStage_starting he h₁ h₂ hheld hf] at hb
      generalize a.bracket.startFetch first last t = f at hb hspan htime hstart
      obtain ⟨hnone, hbef, haft, hpairs⟩ := hstart
      unfold Fetch.Spans at hspan
      rw [htime] at hspan
      cases hp : f.isPair with
      | true =>
        have hadj : f.high.index ≤ f.low.index + 1 := of_decide_eq_true hp
        simp only [hp, if_true, beginFetch_of_isPair hp] at hb
        cases hb
        obtain ⟨hmin, hmax⟩ := sat64_interpolate_bounds offset hspan.1 hspan.2
        exact ⟨fun _ _ => ⟨fun _ => ⟨f.low, f.high, rfl, hspan.1, hspan.2, rfl, rfl, rfl, hmin, hmax⟩,
          fun h => (Bool.noConfusion h),
          fun low high hpair hlow hhigh => absurd hhigh (hmiss low high hpair hlow),
          fun _ => ⟨fun h => absurd rfl h, fun _ => ⟨rfl, f, htime, hnone, hbef, haft, hpairs,
            fun _ => ⟨rfl, rfl, rfl, rfl⟩, fun h => by omega⟩⟩⟩, rfl⟩
      | false =>
        have hapart : ¬f.high.index ≤ f.low.index + 1 := of_decide_eq_false hp
        simp only [hp, beginFetch_of_not_isPair hp] at hb
        cases hb
        refine ⟨fun _ _ => ⟨fun h => (Bool.noConfusion h), fun _ => ?_,
          fun low high hpair hlow hhigh => absurd hhigh (hmiss low high hpair hlow),
          fun _ => ⟨fun h => absurd rfl h, fun _ => ⟨?_, f, htime, hnone, hbef, haft, hpairs,
            fun h => absurd h hapart, fun _ => ?_⟩⟩⟩, ?_⟩
        all_goals by_cases hd : a.fetchState = .discarding <;> simp [hd]

end Sys2Proof.Machine
end

section
/-! What each operation on one axis keeps: laws 1 to 5 of R1 and a pending capture (law 11), and for most of
them the law, the fetch and OFF. -/

namespace Sys2Proof.Machine

/-! ### The invariants of one axis -/

/-- A pending capture stands, but for missed events that join its count (law 11, R138). -/
def IndexCapture.Stands (x y : IndexCapture) : Prop :=
  x.pending = true →
    y.pending = true ∧ y.current = x.current ∧ y.previous = x.previous ∧ min 255 x.missed ≤ y.missed

theorem IndexCapture.Stands.refl (x : IndexCapture) : x.Stands x :=
  fun h => ⟨h, rfl, rfl, Nat.min_le_right _ _⟩

theorem IndexCapture.Stands.trans {x y z : IndexCapture} (h : x.Stands y) (h' : y.Stands z) :
    x.Stands z := by
  intro hx
  obtain ⟨hy, hc, hp, hm⟩ := h hx
  obtain ⟨hz, hc', hp', hm'⟩ := h' hy
  exact ⟨hz, hc'.trans hc, hp'.trans hp, by omega⟩

/-- A change of one axis keeps laws 1 to 5 and a pending capture. -/
structure Axis.Keeps (a b : Axis) : Prop where
  motion : a.motionSound → b.motionSound
  limits : a.clampSound ∧ a.wrapSound → b.clampSound ∧ b.wrapSound
  moves : a.movesSound → b.movesSound
  capture : a.encoder.capture.Stands b.encoder.capture

/-- A change that keeps as well the law and the fetch, and leaves OFF as OFF. -/
structure Axis.Calm (a b : Axis) : Prop extends a.Keeps b where
  law : b.law = a.law
  fetch : b.fetch = a.fetch
  fetchState : b.fetchState = a.fetchState
  off : a.state = .off → b.state = .off

theorem Axis.Keeps.refl (a : Axis) : a.Keeps a := ⟨id, id, id, .refl _⟩

theorem Axis.Keeps.trans {a b c : Axis} (h : a.Keeps b) (h' : b.Keeps c) : a.Keeps c :=
  ⟨h'.motion ∘ h.motion, h'.limits ∘ h.limits, h'.moves ∘ h.moves, h.capture.trans h'.capture⟩

theorem Axis.Calm.refl (a : Axis) : a.Calm a := ⟨.refl a, rfl, rfl, rfl, id⟩

theorem Axis.Calm.trans {a b c : Axis} (h : a.Calm b) (h' : b.Calm c) : a.Calm c :=
  ⟨h.toKeeps.trans h'.toKeeps, h'.law.trans h.law, h'.fetch.trans h.fetch,
    h'.fetchState.trans h.fetchState, h'.off ∘ h.off⟩

/-- What a read or an evaluation does to an axis: it keeps law and state as well. -/
structure Axis.KeepsLaw (a b : Axis) : Prop extends a.Keeps b where
  law : b.law = a.law
  state : b.state = a.state

theorem Axis.KeepsLaw.refl (a : Axis) : a.KeepsLaw a := ⟨.refl a, rfl, rfl⟩

theorem Axis.KeepsLaw.trans {a b c : Axis} (h : a.KeepsLaw b) (h' : b.KeepsLaw c) : a.KeepsLaw c :=
  ⟨h.toKeeps.trans h'.toKeeps, h'.law.trans h.law, h'.state.trans h.state⟩

/-! ### Windows (R143) -/

/-- The window of law 2: 1 to 500 steps, and no more pulses begun than it has. -/
def Output.WindowSound (o : Output) : Prop :=
  ∀ w, o.window = some w → 1 ≤ w.count ∧ w.count ≤ 500 ∧ w.begun ≤ w.count

@[simp] theorem Output.applyPark_window (mode : ParkMode) (o : Output) :
    (o.applyPark mode).window = o.window := by cases mode <;> rfl

@[simp] theorem Output.park_window (mode : ParkMode) (o : Output) :
    (o.park mode).window = o.window := by
  unfold Output.park; split <;> simp

@[simp] theorem Output.repark_window (mode : ParkMode) (o : Output) :
    (o.repark mode).window = o.window := by
  unfold Output.repark; split <;> simp

@[simp] theorem Output.settle_window (mode : ParkMode) (o : Output) :
    (o.settle mode).window = none := by
  simp only [Output.settle]; split <;> simp

theorem Output.handOver_windowSound (mode : ParkMode) {n : Int} (hn : n.natAbs ≤ 500) (o : Output) :
    (o.handOver mode n).WindowSound := by
  intro w hw
  unfold Output.handOver Output.openWindow at hw
  split at hw
  · simp at hw
  · cases hw
    exact ⟨by show 1 ≤ n.natAbs; omega, hn, Nat.zero_le _⟩

theorem Output.pulseBegin_windowSound {o : Output} (h : o.WindowSound) : o.pulseBegin.WindowSound := by
  unfold Output.pulseBegin
  split
  · rename_i w hw
    split
    · rename_i hb
      rintro _ ⟨⟩
      obtain ⟨h₁, h₂, -⟩ := h w hw
      exact ⟨h₁, h₂, hb.2.1⟩
    · exact h
  · exact h

theorem Output.pulseEnd_windowSound (mode : ParkMode) {o : Output} (h : o.WindowSound) :
    (o.pulseEnd mode).WindowSound := by
  unfold Output.pulseEnd
  split
  · exact h
  · split
    · exact h
    · rename_i w hw
      split
      · rintro _ ⟨⟩
        exact h w hw
      · split
        · exact h
        · intro w' hw'
          simp at hw'

/-- A change of the outputs alone. -/
theorem Axis.calm_output (a : Axis) {o : Output} (h : a.output.WindowSound → o.WindowSound) :
    a.Calm { a with output := o } := by
  refine ⟨⟨?_, id, id, .refl _⟩, rfl, rfl, rfl, id⟩
  rintro ⟨h₁, h₂, h₃, h₄, h₅, h₆, h₇, h₈, h₉, h₁₀, hw⟩
  exact ⟨h₁, h₂, h₃, h₄, h₅, h₆, h₇, h₈, h₉, h₁₀, h hw⟩

/-- A count of at most 500 is handed over. -/
theorem Axis.calm_handOver (a : Axis) {n : Int} (hn : n.natAbs ≤ 500) :
    a.Calm { a with output := a.output.handOver a.motion.parkMode n } :=
  a.calm_output fun _ => Output.handOver_windowSound _ hn _

/-! ### Targets, the encoder and the inputs -/

/-- M given within the limits of a BOUNDED axis that is homed (R37). -/
theorem Axis.giveTarget_limits {x : Int} {a : Axis} (h : a.motion.softMin < a.motion.softMax)
    (hk : a.motion.kind = .bounded) (hh : a.homed = true) :
    a.motion.softMin ≤ (a.giveTarget x).m ∧ (a.giveTarget x).m ≤ a.motion.softMax := by
  simp only [Axis.giveTarget, hk, hh, and_self, if_true]
  exact ⟨le_clamp h.le, clamp_le h.le⟩

/-- A target given changes M and CLAMPED alone. -/
theorem Axis.giveTarget_frame (x : Int) (a : Axis) :
    a.giveTarget x = { a with m := (a.giveTarget x).m, clamped := (a.giveTarget x).clamped } := by
  unfold Axis.giveTarget; split <;> rfl

/-- Tying the encoder changes its offset alone (R135). -/
theorem Axis.tieEncoder_frame (a : Axis) :
    a.tieEncoder =
      { a with encoder := { a.encoder with offset := a.tieEncoder.encoder.offset } } := by
  unfold Axis.tieEncoder; split <;> rfl

theorem Axis.calm_filters (a : Axis) (f : PerInput Filter) : a.Calm { a with filters := f } :=
  ⟨⟨id, id, id, .refl _⟩, rfl, rfl, rfl, id⟩

theorem Axis.calm_seePair (new : Level × Level) (a : Axis) : a.Calm (a.seePair new) := by
  unfold Axis.seePair
  split <;> exact ⟨⟨id, id, id, .refl _⟩, rfl, rfl, rfl, id⟩

theorem Axis.calm_index (a : Axis) (x : Option Level) :
    a.Calm { a with encoder := { a.encoder with index := x } } :=
  ⟨⟨id, id, id, .refl _⟩, rfl, rfl, rfl, id⟩

theorem Axis.calm_glitches (a : Axis) (n : Nat) :
    a.Calm { a with encoder := { a.encoder with glitches := n } } :=
  ⟨⟨id, id, id, .refl _⟩, rfl, rfl, rfl, id⟩

/-- An index event while a capture is pending only joins its count (R138). -/
theorem IndexCapture.stands_take (x : Capture) (r : IndexCapture) : r.Stands (r.take x) := by
  intro h
  simp only [IndexCapture.take, h, if_true]
  exact ⟨trivial, trivial, trivial, by unfold countUp; omega⟩

theorem Axis.calm_take (a : Axis) (x : Capture) :
    a.Calm { a with encoder := { a.encoder with capture := a.encoder.capture.take x } } :=
  ⟨⟨id, id, id, IndexCapture.stands_take _ _⟩, rfl, rfl, rfl, id⟩

theorem Axis.calm_releaseLate (a : Axis) : a.Calm a.releaseLate :=
  ⟨⟨id, id, id, .refl _⟩, rfl, rfl, rfl, id⟩

theorem Axis.calm_configureSense (g : SenseConfig) (a : Axis) : a.Calm (a.configureSense g) := by
  refine ⟨⟨id, ?_, id, .refl _⟩, rfl, rfl, rfl, id⟩
  rintro ⟨⟨hord, hm⟩, hw⟩
  have hhomed : (a.configureSense g).homed = true → a.homed = true := fun h =>
    (Bool.and_eq_true _ _ ▸ h).1
  exact ⟨⟨fun h => hord (h.imp id hhomed), fun hk h => hm hk (hhomed h)⟩, hw⟩

/-! ### Holds, end stops and faults -/

theorem Axis.calm_holdAsserted (a : Axis) : a.Calm a.holdAsserted := by
  unfold Axis.holdAsserted
  split
  · exact .refl a
  · split
    · rename_i hs
      refine ⟨⟨?_, ?_, id, .refl _⟩, rfl, rfl, rfl, fun h => by simp [hs] at h⟩
      · simp +contextual [Axis.motionSound, hs]
      · simp +contextual [Axis.clampSound, Axis.wrapSound, hs]
    · exact ⟨⟨id, id, id, .refl _⟩, rfl, rfl, rfl, id⟩
    · split
      · exact ⟨⟨id, id, id, .refl _⟩, rfl, rfl, rfl, id⟩
      · exact .refl a
    all_goals exact .refl a

theorem Axis.calm_holdReleased (a : Axis) : a.Calm a.holdReleased := by
  unfold Axis.holdReleased
  split
  · exact .refl a
  · split
    · rename_i hs
      refine ⟨⟨?_, ?_, id, .refl _⟩, rfl, rfl, rfl, fun h => by simp [hs] at h⟩
      · simp +contextual [Axis.motionSound, hs]
      · simp +contextual [Axis.clampSound, Axis.wrapSound, hs]
    · exact ⟨⟨id, id, id, .refl _⟩, rfl, rfl, rfl, id⟩
    · split
      · exact ⟨⟨id, id, id, .refl _⟩, rfl, rfl, rfl, id⟩
      · exact .refl a
    all_goals exact .refl a

/-- An axis that leaves its state for another that is neither OFF nor HOMING, and is at rest if that is
FAULTED. -/
theorem Axis.calm_state (a : Axis) {x : AxisState} (hs : a.state ≠ .off) (hx : x ≠ .off)
    (hh : x ≠ .homing) (hf : x ≠ .faulted) : a.Calm { a with state := x } := by
  refine ⟨⟨?_, ?_, id, .refl _⟩, rfl, rfl, rfl, fun h => absurd h hs⟩
  · rintro ⟨h₁, h₂, h₃, h₄, h₅, h₆, h₇, h₈, h₉, -, hw⟩
    exact ⟨h₁, h₂, h₃, h₄, h₅, h₆, h₇, h₈,
      fun h => h₉ (.inr (.inr ((h.resolve_left hx).resolve_left hf))), fun h => absurd h hh, hw⟩
  · rintro ⟨⟨hord, hm⟩, hw⟩
    exact ⟨⟨fun _ => hord (.inl hs), hm⟩, hw⟩

/-- An axis set at rest for a stop it takes (R90). -/
theorem Axis.calm_stop (a : Axis) : a.Calm { a with v := 0, stopTaken := true } := by
  refine ⟨⟨?_, id, id, .refl _⟩, rfl, rfl, rfl, id⟩
  rintro ⟨h₁, h₂, h₃, h₄, h₅, h₆, -, h₈, -, h₁₀, hw⟩
  exact ⟨h₁, h₂, h₃, h₄, h₅, h₆, Nat.zero_le _, h₈, fun _ => rfl, h₁₀, hw⟩

theorem Axis.ne_off_of_meetsStop {stop : EndStop} {a : Axis} (h : a.meetsStop stop = true) :
    a.state ≠ .off := by
  intro hs
  simp [Axis.meetsStop, hs, AxisState.toRemembered] at h

theorem Axis.calm_enterLimited {stop : EndStop} {a : Axis} (h : a.state ≠ .off) :
    a.Calm (a.enterLimited stop) := by
  have h₁ : a.Calm { a with state := .limited } := a.calm_state h (by simp) (by simp) (by simp)
  have h₂ := h₁.trans (Axis.calm_stop _)
  exact h₂.trans ⟨⟨id, id, id, .refl _⟩, rfl, rfl, rfl, id⟩

theorem Axis.calm_returnFromLimited {a : Axis} (h : a.state ≠ .off) : a.Calm a.returnFromLimited := by
  unfold Axis.returnFromLimited
  split
  · rename_i r _
    have h₁ : a.Calm { a with state := r.state } := by
      cases r <;> exact a.calm_state h (by simp [Remembered.state]) (by simp [Remembered.state])
        (by simp [Remembered.state])
    exact h₁.trans ⟨⟨id, id, id, .refl _⟩, rfl, rfl, rfl, id⟩
  · exact .refl a

theorem Axis.calm_further (a : Axis) (n : Nat) :
    a.Calm { a with fault := { a.fault with further := n } } :=
  ⟨⟨id, id, id, .refl _⟩, rfl, rfl, rfl, id⟩

/-- A change that ends the axis's fetch and with it its place at the port (R41, R49). -/
structure Axis.Abandons (a b : Axis) : Prop extends a.Keeps b where
  fetch : b.fetch = none
  fetchState : b.fetchState = a.abandonFetch.fetchState
  off : a.state = .off → b.state = .off

/-- An axis at rest in OFF or FAULTED, with what the change to it clears. -/
theorem Axis.motionSound_of_rest {a b : Axis} (hm : b.motion = a.motion) (hlp : b.lp = a.lp)
    (hc : b.c = a.c) (hv : b.v = 0) (hs : b.state ≠ .homing) (hw : b.output.window = a.output.window)
    (h : a.motionSound) : b.motionSound := by
  obtain ⟨h₁, h₂, h₃, h₄, h₅, h₆, -, h₈, -, -, hw'⟩ := h
  unfold Axis.motionSound
  rw [hm, hlp, hc, hv, hw]
  exact ⟨h₁, h₂, h₃, h₄, h₅, h₆, Nat.zero_le _, h₈, fun _ => rfl, fun h => absurd h hs, hw'⟩

theorem Axis.abandons_enterFault (cause : FaultCause) (lane : Int) {a : Axis} (h : a.state ≠ .off) :
    a.Abandons (a.enterFault cause lane) := by
  refine ⟨⟨?_, ?_, fun _ => Nat.zero_le _, .refl _⟩, rfl, rfl, fun h' => absurd h' h⟩
  · exact Axis.motionSound_of_rest rfl rfl rfl rfl (by simp [Axis.enterFault])
      (Output.park_window _ _)
  · rintro ⟨⟨hord, -⟩, hw⟩
    exact ⟨⟨fun _ => hord (.inl h), fun _ h' => (Bool.noConfusion h')⟩, hw⟩

theorem Axis.abandons_disable {a : Axis} (h : a.state ≠ .off) : a.Abandons a.disable := by
  refine ⟨⟨?_, ?_, fun _ => Nat.zero_le _, .refl _⟩, rfl, rfl, fun _ => rfl⟩
  · exact Axis.motionSound_of_rest rfl rfl rfl rfl (by simp [Axis.disable]) (Output.park_window _ _)
  · rintro ⟨⟨hord, hm⟩, hw⟩
    have hhomed : a.disable.homed = true → a.homed = true := fun h' =>
      (Bool.and_eq_true _ _ ▸ h').1
    exact ⟨⟨fun _ => hord (.inl h), fun hk h' => hm hk (hhomed h')⟩, hw⟩

theorem Axis.abandons_bindLaw (law : Law) (a : Axis) : a.Abandons (a.bindLaw law) :=
  ⟨⟨id, id, fun _ => Nat.zero_le _, .refl _⟩, rfl, rfl, id⟩

/-! ### Requests to one axis -/

/-- An ENABLE keeps the laws of an axis whose config records agree (R96, R97). -/
theorem Axis.keeps_enable {a : Axis} (hc : a.configsAgree = true) :
    a.Keeps a.enable ∧ a.enable.law = a.law ∧ a.enable.fetch = a.fetch ∧
      a.enable.fetchState = a.fetchState := by
  have hord : a.motion.softMin < a.motion.softMax := by
    simp only [Axis.configsAgree, Bool.and_eq_true, decide_eq_true_eq] at hc
    exact hc.1.1
  obtain ⟨m, clamped, hgive, hm⟩ : ∃ m clamped, a.giveTarget a.c = { a with m, clamped } ∧
      (a.motion.kind = .bounded → a.homed = true →
        a.motion.softMin ≤ m ∧ m ≤ a.motion.softMax) :=
    ⟨_, _, a.giveTarget_frame a.c, fun hk hh => a.giveTarget_limits hord hk hh⟩
  have hkeeps : ∀ e : Encoder, e.capture = a.encoder.capture →
      a.Keeps { a with
        m, clamped, state := .ready, v := 0, bracket := .none, output := a.output.activate
        encoder := e } := by
    intro e he
    refine ⟨Axis.motionSound_of_rest rfl rfl rfl rfl (by simp) rfl, ?_, id, ?_⟩
    · rintro ⟨-, hw⟩
      exact ⟨⟨fun _ => hord, hm⟩, hw⟩
    · show a.encoder.capture.Stands e.capture
      rw [he]; exact .refl _
  simp only [Axis.enable, hgive]
  split
  · exact ⟨hkeeps a.encoder rfl, rfl, rfl, rfl⟩
  · rw [Axis.tieEncoder_frame]
    exact ⟨hkeeps _ rfl, rfl, rfl, rfl⟩

theorem Axis.calm_track {a : Axis} (held : Bool) (h : a.state = .ready) :
    a.Calm { a with
      rebaseDue := true
      state := if held = true ∧ a.motion.holdResponse = .freeze then .frozen else .tracking } := by
  have h₁ : a.Calm { a with
      state := if held = true ∧ a.motion.holdResponse = .freeze then .frozen else .tracking } := by
    split <;> exact a.calm_state (by simp [h]) (by simp) (by simp) (by simp)
  exact h₁.trans ⟨⟨id, id, id, .refl _⟩, rfl, rfl, rfl, id⟩

theorem Axis.calm_stopFromLimited {a : Axis} (h : a.state = .limited) : a.Calm a.stopFromLimited := by
  have h₁ : a.Calm { a with state := .ready } :=
    a.calm_state (by simp [h]) (by simp) (by simp) (by simp)
  refine h₁.trans ?_
  unfold Axis.stopFromLimited
  rw [Axis.giveTarget_frame]
  refine ⟨⟨id, ?_, id, .refl _⟩, rfl, rfl, rfl, by simp⟩
  rintro ⟨⟨hord, -⟩, hw⟩
  exact ⟨⟨hord, fun hk hh => a.giveTarget_limits (hord (.inl (by simp))) hk hh⟩, hw⟩

theorem Axis.calm_faultAck {a : Axis} (h : a.state = .faulted) :
    a.Calm { a with state := .off, fault := FaultRecord.empty } := by
  refine ⟨⟨?_, ?_, id, .refl _⟩, rfl, rfl, rfl, fun _ => rfl⟩
  · intro hm
    have hv : a.v = 0 := by
      obtain ⟨-, -, -, -, -, -, -, -, h₉, -⟩ := hm
      exact h₉ (.inr (.inl h))
    exact Axis.motionSound_of_rest (a := a) rfl rfl rfl hv (by simp) rfl hm
  · rintro ⟨⟨hord, hm⟩, hw⟩
    exact ⟨⟨fun _ => hord (.inl (by simp [h])), hm⟩, hw⟩

theorem Axis.calm_beginHoming (held : Bool) {a : Axis} (h : a.state = .ready) :
    a.Calm (a.beginHoming held) := by
  refine ⟨⟨?_, ?_, id, .refl _⟩, rfl, rfl, rfl, fun h' => by simp [h] at h'⟩
  · rintro ⟨h₁, h₂, h₃, h₄, h₅, h₆, h₇, h₈, h₉, -, hw⟩
    exact ⟨h₁, h₂, h₃, h₄, h₅, h₆, h₇, h₈,
      fun h' => h₉ (.inr (.inr ((h'.resolve_left (by simp [Axis.beginHoming])).resolve_left
        (by simp [Axis.beginHoming])))),
      fun _ => Nat.min_le_right _ _, hw⟩
  · rintro ⟨⟨hord, hm⟩, hw⟩
    exact ⟨⟨fun _ => hord (.inl (by simp [h])), hm⟩, hw⟩

/-- The ranges an accepted Axis Motion Config has (R83). -/
theorem readMotion_ranges {f : MotionFields} {g : MotionConfig} (h : readMotion f = some g) :
    1 ≤ g.vmax ∧ g.vmax ≤ 500 ∧ 1 ≤ g.amax ∧ g.amax ≤ 250 := by
  simp only [readMotion, Option.bind_eq_bind, Option.bind_eq_some_iff] at h
  obtain ⟨_, _, _, _, _, _, _, _, _, _, _, _, _, _, h⟩ := h
  cases h
  have hv₁ := le_clamp (x := f.vmax.toInt) (a := 1) (b := 500) (by decide)
  have hv₂ := clamp_le (x := f.vmax.toInt) (a := 1) (b := 500) (by decide)
  have ha₁ := le_clamp (x := f.amax.toInt) (a := 1) (b := 250) (by decide)
  have ha₂ := clamp_le (x := f.amax.toInt) (a := 1) (b := 250) (by decide)
  simp only [saturateSpeed]
  omega

/-- A write of the config record keeps these fields (R94). -/
theorem Axis.configure_keeps (g : MotionConfig) (a : Axis) :
    let b := a.configure g
    b.motion = g ∧ b.law = a.law ∧ b.fetch = a.fetch ∧ b.fetchState = a.fetchState ∧
      b.state = a.state ∧ b.v = a.v ∧ b.c = a.c ∧ b.m = a.m ∧ b.moves = a.moves ∧
      b.encoder = a.encoder ∧ b.output.window = a.output.window := by
  simp only [Axis.configure]
  split_ifs <;> simp

/-- What a write of the config record does to Lp, W and the homed flag (R33, R38, R88). -/
theorem Axis.configure_resets (g : MotionConfig) (a : Axis) :
    let b := a.configure g
    (b.lp = a.lp ∧ g.backlash = a.motion.backlash ∨ b.lp = 0) ∧
      (b.w = 0 ∨ b.w = a.w ∧ g.kind ≠ .bounded) ∧
      (b.homed = true → a.homed = true ∧ g.kind = a.motion.kind ∧ g.softMin = a.motion.softMin ∧
        g.softMax = a.motion.softMax) := by
  simp only [Axis.configure]
  split_ifs <;> simp_all

theorem Axis.calm_configure {f : MotionFields} {g : MotionConfig} (hg : readMotion f = some g)
    {a : Axis} (h : a.state = .off) : a.Calm (a.configure g) := by
  obtain ⟨hmotion, hlaw, hfetch, hfs, hstate, hv, hc, hm, hmoves, henc, hwin⟩ := a.configure_keeps g
  obtain ⟨hlp, hw, hhomed⟩ := a.configure_resets g
  obtain ⟨r₁, r₂, r₃, r₄⟩ := readMotion_ranges hg
  refine ⟨⟨?_, ?_, ?_, ?_⟩, hlaw, hfetch, hfs, fun _ => hstate.trans h⟩
  · rintro ⟨-, -, -, -, h₅, h₆, -, h₈, h₉, -, hw⟩
    have hrest : a.v = 0 := h₉ (.inl h)
    unfold Axis.motionSound
    rw [hmotion, hstate, hv, hc, hwin, h, hrest]
    exact ⟨r₁, r₂, r₃, r₄, by omega, by omega, Nat.zero_le _, h₈, fun _ => rfl, by simp, hw⟩
  · rintro ⟨⟨hord, hlim⟩, hbase, hdvd⟩
    unfold Axis.clampSound Axis.wrapSound
    rw [hmotion, hstate, hm]
    refine ⟨⟨fun h' => ?_, fun hk hh => ?_⟩, fun hk => hw.resolve_right fun h' => h'.2 hk, ?_⟩
    · obtain ⟨hh, -, hmin, hmax⟩ := hhomed (h'.resolve_left (by simp [h]))
      rw [hmin, hmax]
      exact hord (.inr hh)
    · obtain ⟨hh, hkind, hmin, hmax⟩ := hhomed hh
      rw [hmin, hmax]
      exact hlim (hkind ▸ hk) hh
    · rcases hw with hw | ⟨hw, -⟩
      · rw [hw]; exact dvd_zero _
      · rw [hw]; exact hdvd
  · unfold Axis.movesSound
    rw [hmoves]; exact id
  · rw [henc]; exact .refl _

/-- A Move record joins a queue with room (R27). -/
theorem Axis.calm_move {a : Axis} (m : Move) (h : ¬8 ≤ a.moves.length) :
    a.Calm { a with moves := a.moves ++ [m] } := by
  refine ⟨⟨id, id, fun _ => ?_, .refl _⟩, rfl, rfl, rfl, id⟩
  simp only [Axis.movesSound, List.length_append, List.length_singleton]
  omega

theorem Axis.calm_flush (a : Axis) : a.Calm { a with moves := [], headStart := none } :=
  ⟨⟨id, id, fun _ => Nat.zero_le _, .refl _⟩, rfl, rfl, rfl, id⟩

/-! ### Homing (spec/07) -/

/-- A change of the homing record that keeps its speed. -/
theorem Axis.calm_homingRecord (a : Axis) {h : Homing} (hs : h.speed = a.homing.speed) :
    a.Calm { a with homing := h } := by
  refine ⟨⟨?_, id, id, .refl _⟩, rfl, rfl, rfl, id⟩
  rintro ⟨h₁, h₂, h₃, h₄, h₅, h₆, h₇, h₈, h₉, h₁₀, hw⟩
  exact ⟨h₁, h₂, h₃, h₄, h₅, h₆, h₇, h₈, h₉, fun h => hs.trans_le (h₁₀ h), hw⟩

theorem Axis.calm_homingTakesHome (active : Bool) (a : Axis) : a.Calm (a.homingTakesHome active) := by
  unfold Axis.homingTakesHome
  split
  · split
    · exact .refl a
    · exact a.calm_homingRecord rfl
  · split
    · split <;> exact a.calm_homingRecord rfl
    · exact .refl a
  all_goals exact .refl a

theorem Axis.calm_homingTakesIndex (a : Axis) : a.Calm a.homingTakesIndex := by
  unfold Axis.homingTakesIndex
  split
  · exact a.calm_homingRecord rfl
  all_goals exact .refl a

/-- The goal of a homing is no faster than its speed. -/
theorem Axis.homingGoal_natAbs_le (a : Axis) : a.homingGoal.natAbs ≤ a.homing.speed := by
  have hu : ∀ d : Sense, d.unit = 1 ∨ d.unit = -1 := fun d => by cases d <;> simp [Sense.unit]
  unfold Axis.homingGoal
  split
  · simp
  · split <;> rcases hu a.sense.homeDirection with h | h <;> simp [h]

/-- A completed homing changes these fields alone, and gives M within the limits (R119). -/
theorem Axis.completeHoming_frame (a : Axis) :
    ∃ x m clamped e h, a.completeHoming =
        { a with
          c := sat64 x, m, clamped, encoder := e, homed := true, homing := h, state := .ready } ∧
      e.capture = a.encoder.capture ∧
      (a.motion.softMin < a.motion.softMax → a.motion.kind = .bounded →
        a.motion.softMin ≤ m ∧ m ≤ a.motion.softMax) := by
  simp only [Axis.completeHoming]
  rw [Axis.tieEncoder_frame]
  rw [Axis.giveTarget_frame]
  refine ⟨_, _, _, _, _, rfl, rfl, fun hord hk => ?_⟩
  exact Axis.giveTarget_limits hord hk rfl

theorem Axis.calm_testCompletion {a : Axis} (h : a.state = .homing) : a.Calm a.testCompletion := by
  unfold Axis.testCompletion
  split
  · rename_i hstop
    obtain ⟨x, m, clamped, e, hom, heq, he, hm⟩ := a.completeHoming_frame
    rw [heq]
    refine ⟨⟨?_, ?_, id, ?_⟩, rfl, rfl, rfl, by simp [h]⟩
    · rintro ⟨h₁, h₂, h₃, h₄, h₅, h₆, h₇, -, -, -, hw⟩
      exact ⟨h₁, h₂, h₃, h₄, h₅, h₆, h₇, sat64_inInt64 x, fun _ => hstop.2, by simp, hw⟩
    · rintro ⟨⟨hord, -⟩, hw⟩
      have hord := hord (.inl (by simp [h]))
      exact ⟨⟨fun _ => hord, fun hk _ => hm hord hk⟩, hw⟩
    · show a.encoder.capture.Stands e.capture
      rw [he]; exact .refl _
  · exact .refl a

/-! ### The motion of a turn -/

/-- The axis with the stops taken before its turn past (R90). -/
def Axis.past (a : Axis) : Axis := { a with stopTaken := false }

theorem Axis.calm_past (a : Axis) : a.Calm a.past := by
  refine ⟨⟨?_, id, id, .refl _⟩, rfl, rfl, rfl, id⟩
  rintro ⟨h₁, h₂, h₃, h₄, h₅, h₆, h₇, h₈, h₉, h₁₀, hw⟩
  exact ⟨h₁, h₂, h₃, h₄, h₅, h₆, h₇, h₈, fun h => h₉ (h.imp_right (.imp_right Bool.noConfusion)), h₁₀,
    hw⟩

theorem Axis.calm_lag (a : Axis) (x : Bool) : a.Calm { a with lag := x } :=
  ⟨⟨id, id, id, .refl _⟩, rfl, rfl, rfl, id⟩

/-- A turn's motion: the axis as it moved, its count handed over, and the stops before the turn past. -/
def Axis.turned (a b : Axis) : Axis :=
  Axis.past { b with output := b.output.handOver b.motion.parkMode (stepCount a b) }

/-- A turn that drives the axis at a velocity within Vmax and takes up the lash keeps laws 1 to 3 (R79,
R82, R86). -/
theorem Axis.calm_turned {a b : Axis} {x : Int} {lag : Bool}
    (hb : b = Axis.takeUpLash { a.drive x with lag := lag }) (hs : a.state ≠ .off)
    (hf : a.state ≠ .faulted) (hx : a.motionSound → x.natAbs ≤ a.motion.vmax) :
    a.Calm (a.turned b) := by
  subst hb
  refine ⟨⟨fun h => ?_, id, id, .refl _⟩, rfl, rfl, rfl, fun h => absurd h hs⟩
  have hx := hx h
  obtain ⟨h₁, h₂, h₃, h₄, h₅, h₆, h₇, h₈, h₉, h₁₀, hw⟩ := h
  obtain ⟨hv, hc⟩ := drive_bounds h₈ hx
  obtain ⟨hlow, hhigh, -, htop⟩ :=
    takeUpLash_bounds (a := { a.drive x with lag := lag }) h₅ h₆ (le_trans hv h₂)
  exact ⟨h₁, h₂, h₃, h₄, hlow, hhigh, hv, hc,
    fun h => absurd h (by simp [Axis.turned, Axis.past, Axis.takeUpLash, Axis.drive, hs, hf]), h₁₀,
    Output.handOver_windowSound _ htop _⟩

theorem Axis.calm_moveTowardTarget {a : Axis} (hs : a.state ≠ .off) (hf : a.state ≠ .faulted) :
    a.Calm (a.turned a.moveTowardTarget) :=
  Axis.calm_turned (x := a.nextVelocity) (lag := a.driven.lag) rfl hs hf fun h =>
    velocityStep_natAbs_le _ (by obtain ⟨-, -, -, -, -, -, h₇, -⟩ := h; exact h₇)

theorem Axis.calm_homingMove {a : Axis} (hs : a.state = .homing) : a.Calm (a.turned a.homingMove) :=
  Axis.calm_turned (x := approach a.motion.amax a.v a.homingGoal) (lag := false) rfl (by simp [hs])
    (by simp [hs]) fun h => by
      obtain ⟨-, -, -, -, -, -, h₇, -, -, h₁₀, -⟩ := h
      exact approach_natAbs_le h₇ (le_trans a.homingGoal_natAbs_le (h₁₀ hs))

/-! ### The evaluation of an axis (spec/02) -/

/-- An evaluation leaves the config, C, v, Lp, the state, the homing, the encoder and the outputs alone, and
at most takes records out of the Move Queue (R19). -/
structure Axis.OnlyAims (a b : Axis) : Prop where
  motion : b.motion = a.motion
  law : b.law = a.law
  c : b.c = a.c
  v : b.v = a.v
  lp : b.lp = a.lp
  state : b.state = a.state
  stopTaken : b.stopTaken = a.stopTaken
  homed : b.homed = a.homed
  homing : b.homing = a.homing
  encoder : b.encoder = a.encoder
  output : b.output = a.output
  moves : b.moves.length ≤ a.moves.length

theorem Axis.OnlyAims.trans {a b c : Axis} (h : a.OnlyAims b) (h' : b.OnlyAims c) : a.OnlyAims c :=
  ⟨h'.motion.trans h.motion, h'.law.trans h.law, h'.c.trans h.c, h'.v.trans h.v, h'.lp.trans h.lp,
    h'.state.trans h.state, h'.stopTaken.trans h.stopTaken, h'.homed.trans h.homed,
    h'.homing.trans h.homing, h'.encoder.trans h.encoder, h'.output.trans h.output,
    h'.moves.trans h.moves⟩

/-- The law stage of a TABLE axis changes these fields alone. -/
theorem Axis.tableStage_frame (e : DirEntry) (offset t : Int) (a : Axis) :
    let b := (a.tableStage e offset t).1
    b = { a with
      p := b.p, offTable := b.offTable, stale := b.stale, bracket := b.bracket, wanted := b.wanted
      fetch := b.fetch, fetchState := b.fetchState, stallCounted := b.stallCounted } := by
  cases he : e.ends with
  | none => simp [Axis.tableStage, he]
  | some ends =>
    obtain ⟨-, h⟩ := tableTargetLiesBetweenItsKnots
    obtain ⟨-, -, -, -, h⟩ :=
      h e offset t a (a.tableStage e offset t).1 (a.tableStage e offset t).2 ends.1 ends.2 he rfl
    exact h

theorem Axis.onlyAims_tableStage (e : DirEntry) (offset t : Int) (a : Axis) :
    a.OnlyAims (a.tableStage e offset t).1 := by
  rw [Axis.tableStage_frame]
  exact ⟨rfl, rfl, rfl, rfl, rfl, rfl, rfl, rfl, rfl, rfl, rfl, le_refl _⟩

/-- The CUED law only takes records out of the queue (R29). -/
theorem cuedStage_moves_length (t : Int) (l : List Move) (h : Option HeadStart) (p : Int) (late : Bool) :
    (cuedStage t l h p late).moves.length ≤ l.length := by
  induction l generalizing h p late with
  | nil => simp [cuedStage]
  | cons m rest ih =>
    simp only [cuedStage]
    split_ifs
    · exact le_trans (ih _ _ _) (Nat.le_succ _)
    · exact le_trans (ih _ _ _) (Nat.le_succ _)
    · simp
    · simp

theorem Axis.onlyAims_lawStage (s : State) (t : Int) (a : Axis) : a.OnlyAims (a.lawStage s t).1 := by
  unfold Axis.lawStage
  split
  case h_3 => exact a.onlyAims_tableStage _ _ _
  case h_5 =>
    exact ⟨rfl, rfl, rfl, rfl, rfl, rfl, rfl, rfl, rfl, rfl, rfl, cuedStage_moves_length _ _ _ _ _⟩
  all_goals exact ⟨rfl, rfl, rfl, rfl, rfl, rfl, rfl, rfl, rfl, rfl, rfl, le_refl _⟩

theorem Axis.onlyAims_rebase (setP : Bool) (a : Axis) : a.OnlyAims (a.rebase setP) := by
  unfold Axis.rebase
  split <;> exact ⟨rfl, rfl, rfl, rfl, rfl, rfl, rfl, rfl, rfl, rfl, rfl, le_refl _⟩

theorem Axis.onlyAims_gear (a : Axis) : a.OnlyAims a.gear := by
  unfold Axis.gear
  split <;> exact ⟨rfl, rfl, rfl, rfl, rfl, rfl, rfl, rfl, rfl, rfl, rfl, le_refl _⟩

theorem Axis.onlyAims_evaluate (s : State) (u : LaneUpdate) (a : Axis) :
    a.OnlyAims (a.evaluate s u) := by
  have h₀ : a.OnlyAims { a with rebaseDue := a.rebaseDue || u.mark a.motion.lane } :=
    ⟨rfl, rfl, rfl, rfl, rfl, rfl, rfl, rfl, rfl, rfl, rfl, le_refl _⟩
  exact ((h₀.trans (Axis.onlyAims_lawStage s _ _)).trans (Axis.onlyAims_rebase _ _)).trans
    (Axis.onlyAims_gear _)

/-- A rebased W is a whole number of revolutions (R35). -/
theorem revolution_dvd_rebasedWrap (p c : Int) (steps : Nat) : revolution ∣ rebasedWrap p c steps := by
  unfold rebasedWrap
  rcases clamp_cases (revolution * floorQuot (p - floorQuot (c * revolution) steps + 2147483648)
    revolution) minInt64 maxWrapBase with h | h | h <;> rw [h.1]
  · exact dvd_mul_right _ _
  · decide
  · decide

theorem Axis.lawStage_w (s : State) (t : Int) (a : Axis) : (a.lawStage s t).1.w = a.w := by
  unfold Axis.lawStage
  split
  case h_3 => rw [Axis.tableStage_frame]
  all_goals rfl

theorem Axis.wrapSound_rebase (setP : Bool) {a : Axis} (h : a.wrapSound) : (a.rebase setP).wrapSound := by
  unfold Axis.rebase
  split
  · rename_i hr
    exact ⟨fun hk => absurd (hr.1.symm.trans hk) (by decide), revolution_dvd_rebasedWrap _ _ _⟩
  · exact h

theorem Axis.wrapSound_evaluate (s : State) (u : LaneUpdate) {a : Axis} (h : a.wrapSound) :
    (a.evaluate s u).wrapSound := by
  have hgear : ∀ b : Axis, b.wrapSound → b.gear.wrapSound := fun b hb => by
    unfold Axis.gear; split <;> exact hb
  have hm := (Axis.onlyAims_lawStage s (u.time a.motion.lane)
    { a with rebaseDue := a.rebaseDue || u.mark a.motion.lane }).motion
  have hw := Axis.lawStage_w s (u.time a.motion.lane)
    { a with rebaseDue := a.rebaseDue || u.mark a.motion.lane }
  refine hgear _ (Axis.wrapSound_rebase _ ?_)
  unfold Axis.wrapSound
  rw [hm, hw]
  exact h

/-- The gear leaves M of a BOUNDED axis within soft limits that are in order (R36, R37). -/
theorem Axis.gear_limits {a : Axis} (hord : a.motion.softMin < a.motion.softMax)
    (hk : a.motion.kind = .bounded) : a.motion.softMin ≤ a.gear.m ∧ a.gear.m ≤ a.motion.softMax := by
  simp only [Axis.gear, hk]
  exact ⟨le_clamp hord.le, clamp_le hord.le⟩

theorem Axis.evaluate_limits (s : State) (u : LaneUpdate) {a : Axis}
    (hord : a.motion.softMin < a.motion.softMax) (hk : a.motion.kind = .bounded) :
    a.motion.softMin ≤ (a.evaluate s u).m ∧ (a.evaluate s u).m ≤ a.motion.softMax := by
  have hm : (Axis.rebase (Axis.lawStage s (u.time a.motion.lane)
      { a with rebaseDue := a.rebaseDue || u.mark a.motion.lane }).2 (Axis.lawStage s
        (u.time a.motion.lane)
        { a with rebaseDue := a.rebaseDue || u.mark a.motion.lane }).1).motion = a.motion :=
    ((Axis.onlyAims_lawStage s _ _).trans (Axis.onlyAims_rebase _ _)).motion
  rw [← hm] at hord hk ⊢
  exact Axis.gear_limits hord hk

/-- An evaluation of an axis outside OFF keeps laws 1 to 5 (R19, R37). -/
theorem Axis.keepsLaw_evaluate (s : State) (u : LaneUpdate) {a : Axis} (hs : a.state ≠ .off) :
    a.KeepsLaw (a.evaluate s u) := by
  have h := a.onlyAims_evaluate s u
  refine ⟨⟨?_, ?_, fun hm => le_trans h.moves hm, ?_⟩, h.law, h.state⟩
  · unfold Axis.motionSound
    rw [h.motion, h.lp, h.v, h.c, h.state, h.stopTaken, h.homing, h.output]
    exact id
  · rintro ⟨⟨hord, -⟩, hw⟩
    have hord := hord (.inl hs)
    refine ⟨?_, a.wrapSound_evaluate s u hw⟩
    unfold Axis.clampSound
    rw [h.motion]
    exact ⟨fun _ => hord, fun hk _ => a.evaluate_limits s u hord hk⟩
  · rw [h.encoder]; exact .refl _

/-! ### The fetch at an evaluation (spec/03) -/

/-- A change that leaves the fetch alone, or begins one where there was none: its read then waits, but where
a discarded read still runs (R44, R49). -/
def Axis.MayAsk (a b : Axis) : Prop :=
  b.fetch = a.fetch ∧ b.fetchState = a.fetchState ∨
    a.fetch = none ∧ b.fetch ≠ none ∧
      b.fetchState = if a.fetchState = .discarding then .discarding else .waiting

theorem Axis.mayAsk_beginFetch (f : Fetch) {a : Axis} (h : a.fetch = none) : a.MayAsk (a.beginFetch f) := by
  cases hp : f.isPair with
  | true =>
    rw [beginFetch_of_isPair hp]
    exact .inl ⟨h.symm, rfl⟩
  | false =>
    rw [beginFetch_of_not_isPair hp]
    by_cases hd : a.fetchState = .discarding <;> simp [Axis.MayAsk, h, hd]

theorem Axis.mayAsk_tableStage (e : DirEntry) (offset t : Int) (a : Axis) :
    a.MayAsk (a.tableStage e offset t).1 := by
  have hoff : ∀ (b : Bracket) (x : Axis), (x.noteOffTable b).fetch = x.fetch ∧
      (x.noteOffTable b).fetchState = x.fetchState := fun b x => by
    rw [noteOffTable_frame]; exact ⟨rfl, rfl⟩
  unfold Axis.tableStage
  split
  · exact .inl ⟨rfl, rfl⟩
  · split
    · exact .inl (hoff _ _)
    · split
      · exact .inl (hoff _ _)
      · split
        · exact .inl ⟨rfl, rfl⟩
        · split
          · exact .inl ⟨rfl, rfl⟩
          · rename_i first last _ _ _ _ hf
            have hask := Axis.mayAsk_beginFetch (a.bracket.startFetch first last t)
              (a := { a with wanted := t }) (not_not.1 hf)
            dsimp only
            split <;> exact hask

theorem Axis.mayAsk_evaluate (s : State) (u : LaneUpdate) (a : Axis) : a.MayAsk (a.evaluate s u) := by
  have hgear : ∀ (p : Bool) (x : Axis), (x.rebase p).gear.fetch = x.fetch ∧
      (x.rebase p).gear.fetchState = x.fetchState := fun p x => by
    unfold Axis.rebase Axis.gear; split <;> split <;> exact ⟨rfl, rfl⟩
  have hlaw : ∀ t (x : Axis), x.MayAsk (x.lawStage s t).1 := fun t x => by
    unfold Axis.lawStage
    split
    · exact .inl ⟨rfl, rfl⟩
    · exact .inl ⟨rfl, rfl⟩
    · exact x.mayAsk_tableStage _ _ _
    · exact .inl ⟨rfl, rfl⟩
    · exact .inl ⟨rfl, rfl⟩
  have h := hlaw (u.time a.motion.lane) { a with rebaseDue := a.rebaseDue || u.mark a.motion.lane }
  unfold Axis.MayAsk Axis.evaluate
  rw [(hgear _ _).1, (hgear _ _).2]
  exact h

/-! ### Reads -/

/-- A change of the fetch, its state, the bracket and the stall mark alone. -/
theorem Axis.keepsLaw_fetch (a : Axis) (b : Bracket) (f : Option Fetch) (x : FetchState) (m : Bool) :
    a.KeepsLaw { a with bracket := b, fetch := f, fetchState := x, stallCounted := m } :=
  ⟨⟨id, id, id, .refl _⟩, rfl, rfl⟩

theorem Axis.keepsLaw_takeRead (k : KnotRef) (a : Axis) : a.KeepsLaw (a.takeRead k) := by
  have hhold : ∀ f : Fetch, ∃ b g, a.holdFetch f = { a with bracket := b, fetch := g } := fun f => by
    unfold Axis.holdFetch; split <;> exact ⟨_, _, rfl⟩
  unfold Axis.takeRead
  split
  · rename_i f _ _
    obtain ⟨b, g, h⟩ := hhold (f.take k)
    rw [h]
    exact a.keepsLaw_fetch b g _ _
  all_goals exact ⟨⟨id, id, id, .refl _⟩, rfl, rfl⟩

end Sys2Proof.Machine
end

section
/-! What a part of a step can do, said once: an `Act` changes one block, or one axis with its place at the
Table Port, and `Run` is a sequence of acts. Every invariant of R1 that the acts keep is kept by them here. -/

namespace Sys2Proof.Machine

/-! ### The blocks of an act -/

/-- Law 6 of a list of records. -/
def CuesOrdered (l : List CueRecord) : Prop :=
  l.length ≤ cueCapacity ∧ l.Pairwise (fun c d => c.time ≤ d.time)

/-- Law 7 of a law bound to axis `i`. -/
def Law.Below (i : AxisIdx) (law : Law) : Prop :=
  ∀ source numerator denominator phase, law = .coupled source numerator denominator phase → source < i

/-- Table Memory after a change that is no event of the Rewrite Engine's: the segments, the records and the
Staging Buffer stand, a suspended engine may have resumed, and the entries differ in their bound-axis sets
alone. -/
structure TableMemory.Calm (t t' : TableMemory) : Prop where
  images : t'.images = t.images
  records : t'.records = t.records
  startUp : t'.startUp = t.startUp
  staging : t'.staging = t.staging
  rewrite : t'.rewrite = t.rewrite
  engine : t'.engine = t.engine ∨ t'.engine = t.engine.resumed
  entry : ∀ id : TableId, ∃ b, t'.directory[id] = { t.directory[id] with bound := b }

theorem TableMemory.Calm.refl (t : TableMemory) : t.Calm t :=
  ⟨rfl, rfl, rfl, rfl, rfl, .inl rfl, fun _ => ⟨_, rfl⟩⟩

@[simp] theorem EngineState.resumed_resumed (e : EngineState) : e.resumed.resumed = e.resumed := by
  cases e <;> rfl

@[simp] theorem EngineState.resumed_eq_idle (e : EngineState) : e.resumed = .idle ↔ e = .idle := by
  cases e <;> simp [EngineState.resumed]

theorem TableMemory.Calm.trans {t t' t'' : TableMemory} (h : t.Calm t') (h' : t'.Calm t'') :
    t.Calm t'' := by
  refine ⟨h'.images.trans h.images, h'.records.trans h.records, h'.startUp.trans h.startUp,
    h'.staging.trans h.staging, h'.rewrite.trans h.rewrite, ?_, fun id => ?_⟩
  · rcases h.engine with he | he <;> rcases h'.engine with he' | he' <;> simp [he, he']
  · obtain ⟨b, hb⟩ := h.entry id
    obtain ⟨b', hb'⟩ := h'.entry id
    exact ⟨b', by rw [hb', hb]⟩

/-- IDLE stays IDLE, and no other state becomes IDLE. -/
theorem TableMemory.Calm.idle_iff {t t' : TableMemory} (h : t.Calm t') :
    t'.engine = .idle ↔ t.engine = .idle := by
  rcases h.engine with he | he <;> simp [he]

/-- A change at the Table Port, and of the fetches it serves: each axis keeps its law and its state, and the
rest of the unit stands, but for a resumed engine and the Table Stall count. -/
structure PortFrame (s t : State) : Prop where
  axes : ∀ i, (s.axis i).KeepsLaw (t.axis i)
  clock : t.clock = s.clock
  cues : t.cues = s.cues
  link : t.link = s.link
  work : t.work = s.work
  memory : s.memory.Calm t.memory
  directory : t.memory.directory = s.memory.directory

/-- A change at the Table Port that keeps law 9 and leaves no grant due. -/
structure PortStep (s t : State) : Prop extends PortFrame s t where
  reads : ReadsSound s → ReadsSound t
  grants : ScanningSound s → ReadsSound s → GrantsSound s → GrantsSound t

/-- What a part of a step can do. `o` says that the start-up scan is complete, as every wakening of an axis
needs. -/
inductive Act (o : Prop) : State → State → Prop
  | clock (s : State) (k : SkyClock) (hsky : k.skyLane = s.clock.skyLane)
      (hshow : k.showLane = s.clock.showLane) (hstate : k.state = s.clock.state) :
      Act o s (s.setClock k)
  | cues (s : State) (q : CueQueue) (hq : CuesOrdered s.cues.records → CuesOrdered q.records)
      (he : s.cues.records = [] → q.records = []) : Act o s { s with cues := q }
  | raise (s : State) (c : Cause) : Act o s (s.raise c)
  | draw (s : State) : Act o s s.afterDraw
  | work (s : State) (w : Option UpdateWork) (hw : WorkSound s → WorkSound (s.setWork w)) :
      Act o s (s.setWork w)
  | axes (s : State) (v : Vector Axis 16) (hv : ∀ i : AxisIdx, (s.axis i).Calm v[i]) :
      Act o s { s with axes := v }
  | wake (s : State) (i : AxisIdx) (b : Axis) (hk : (s.axis i).Keeps b) (hl : b.law = (s.axis i).law)
      (hf : b.fetch = (s.axis i).fetch) (hs : b.fetchState = (s.axis i).fetchState) (ho : o)
      (hu : s.lawUsable b.law = true) : Act o s (s.setAxis i b)
  | abandon (s : State) (i : AxisIdx) (b : Axis) (hb : (s.axis i).Abandons b)
      (hl : b.law = (s.axis i).law) : Act o s (s.setAxis i b)
  | bind (s : State) (i : AxisIdx) (law : Law) (hb : law.Below i)
      (hu : (s.axis i).state ≠ .off → s.lawUsable law = true) :
      Act o s ({ s with memory := s.memory.rebind i (s.axis i).law law }.onAxis i (Axis.bindLaw law))
  | port (s t : State) (h : PortStep s t) : Act o s t

/-- A sequence of acts. -/
def Run (o : Prop) : State → State → Prop := Relation.ReflTransGen (Act o)

theorem Run.refl {o : Prop} (s : State) : Run o s s := Relation.ReflTransGen.refl

theorem Run.trans {o : Prop} {s t u : State} (h : Run o s t) (h' : Run o t u) : Run o s u :=
  Relation.ReflTransGen.trans h h'

theorem Act.run {o : Prop} {s t : State} (h : Act o s t) : Run o s t := Relation.ReflTransGen.single h

theorem Act.imp {o o' : Prop} (ho : o → o') {s t : State} (h : Act o s t) : Act o' s t := by
  cases h with
  | wake i b hk hl hf hs h hu => exact .wake s i b hk hl hf hs (ho h) hu
  | clock k hsky hshow hstate => exact .clock s k hsky hshow hstate
  | cues q hq he => exact .cues s q hq he
  | raise c => exact .raise s c
  | draw => exact .draw s
  | work w hw => exact .work s w hw
  | axes v hv => exact .axes s v hv
  | abandon i b hb hl => exact .abandon s i b hb hl
  | bind i law hb hu => exact .bind s i law hb hu
  | port _ h => exact .port s t h

theorem Run.imp {o o' : Prop} (ho : o → o') {s t : State} (h : Run o s t) : Run o' s t :=
  Relation.ReflTransGen.mono (fun _ _ => Act.imp ho) _ _ h

/-- One axis changed calmly. -/
theorem run_setAxis {o : Prop} {s : State} {i : AxisIdx} {b : Axis} (h : (s.axis i).Calm b) :
    Run o s (s.setAxis i b) := by
  refine (Act.axes s (s.axes.set i b) fun j => ?_).run
  show (s.axis j).Calm ((s.setAxis i b).axis j)
  rw [State.axis_setAxis]
  split
  · rename_i hij
    exact hij ▸ h
  · exact .refl _

theorem run_onAxis {o : Prop} {s : State} {i : AxisIdx} {f : Axis → Axis}
    (h : (s.axis i).Calm (f (s.axis i))) : Run o s (s.onAxis i f) := run_setAxis h

theorem run_mapAxes {o : Prop} {s : State} {f : Axis → Axis} (h : ∀ a : Axis, a.Calm (f a)) :
    Run o s (s.mapAxes f) := by
  refine (Act.axes s (s.axes.map f) fun j => ?_).run
  show (s.axis j).Calm ((s.mapAxes f).axis j)
  rw [State.axis_mapAxes]
  exact h _

/-! ### What every act leaves as it is -/

/-- The frame of acts: each axis keeps laws 1 to 5 and its pending capture, a law bound is on a lower axis,
and the Link Port keeps all but its Attention Set. -/
structure Frame (s t : State) : Prop where
  axes : ∀ i, (s.axis i).Keeps (t.axis i)
  laws : ∀ i, (t.axis i).law = (s.axis i).law ∨ (t.axis i).law.Below i
  link : ∃ x, t.link = { s.link with attention := x }
  cues : CuesOrdered s.cues.records → CuesOrdered t.cues.records
  work : WorkSound s → WorkSound t

theorem Frame.refl (s : State) : Frame s s :=
  ⟨fun _ => .refl _, fun _ => .inl rfl, ⟨_, rfl⟩, id, id⟩

theorem Frame.trans {s t u : State} (h : Frame s t) (h' : Frame t u) : Frame s u := by
  refine ⟨fun i => (h.axes i).trans (h'.axes i), fun i => ?_, ?_, h'.cues ∘ h.cues, h'.work ∘ h.work⟩
  · rcases h'.laws i with e | e
    · rw [e]; exact h.laws i
    · exact .inr e
  · obtain ⟨x, hx⟩ := h.link
    obtain ⟨y, hy⟩ := h'.link
    exact ⟨y, by rw [hy, hx]⟩

theorem workSound_congr {s t : State} (hw : t.work = s.work)
    (hsky : t.clock.skyLane = s.clock.skyLane) (hshow : t.clock.showLane = s.clock.showLane)
    (h : WorkSound s) : WorkSound t := by
  unfold WorkSound
  rw [hw, hsky, hshow]
  exact h

theorem PortFrame.frame {s t : State} (h : PortFrame s t) : Frame s t :=
  ⟨fun i => (h.axes i).toKeeps, fun i => .inl (h.axes i).law, ⟨s.link.attention, by rw [h.link]⟩,
    by rw [h.cues]; exact id, workSound_congr h.work (by rw [h.clock]) (by rw [h.clock])⟩

/-- A frame from what is true of one axis, where the other axes and blocks stand. -/
theorem Frame.setAxis {s : State} {i : AxisIdx} {b : Axis} (hk : (s.axis i).Keeps b)
    (hl : b.law = (s.axis i).law ∨ b.law.Below i) : Frame s (s.setAxis i b) := by
  refine ⟨fun j => ?_, fun j => ?_, ⟨_, rfl⟩, id, id⟩ <;> rw [State.axis_setAxis] <;> split
  · rename_i h; exact h ▸ hk
  · exact .refl _
  · rename_i h; exact h ▸ hl
  · exact .inl rfl

theorem Frame.setMemory (s : State) (m : TableMemory) : Frame s { s with memory := m } :=
  ⟨fun _ => .refl _, fun _ => .inl rfl, ⟨_, rfl⟩, id, id⟩

@[simp] theorem inSet_dropAxis (set : AxisSet) (i j : AxisIdx) :
    inSet (dropAxis set i) j = (inSet set j && decide (i ≠ j)) := by
  have h : ∀ i j : AxisIdx, (~~~(1#16 <<< i.val)).getLsbD j.val = decide (i ≠ j) := by decide
  simp only [inSet, dropAxis, BitVec.getLsbD_and, h]

/-- Reading a Directory entry after a write. -/
theorem directory_set (v : Vector DirEntry 64) (k id : TableId) (e : DirEntry) :
    (v.set k e)[id] = if k = id then e else v[id] := by
  by_cases h : k = id
  · simp [h]
  · have h' : k.val ≠ id.val := fun e => h (Fin.ext e)
    simp [h, h']

/-- The entry of an id after axis `i`'s law has changed: its bound-axis set alone differs (R62). -/
theorem rebind_entry (i : AxisIdx) (old new : Law) (t : TableMemory) (id : TableId) :
    ∃ b, (t.rebind i old new).directory[id] = { t.directory[id] with bound := b } ∧
      ∀ j, inSet b j = if i = j then
          decide (new.tableId = some id) ||
            (inSet t.directory[id].bound j && !decide (old.tableId = some id))
        else inSet t.directory[id].bound j := by
  unfold TableMemory.rebind
  cases old.tableId with
  | none =>
    cases new.tableId with
    | none => exact ⟨t.directory[id].bound, rfl, fun j => by simp⟩
    | some y =>
      by_cases hy : y = id
      · subst hy
        refine ⟨addAxis t.directory[y].bound i, by rw [directory_set, if_pos rfl], fun j => ?_⟩
        by_cases hj : i = j <;> simp [hj]
      · exact ⟨t.directory[id].bound, by rw [directory_set, if_neg hy], fun j => by simp [hy]⟩
  | some x =>
    by_cases hx : x = id
    · subst hx
      cases new.tableId with
      | none =>
        refine ⟨dropAxis t.directory[x].bound i, by rw [directory_set, if_pos rfl], fun j => ?_⟩
        by_cases hj : i = j <;> simp [hj]
      | some y =>
        by_cases hy : y = x
        · subst hy
          refine ⟨addAxis (dropAxis t.directory[y].bound i) i, ?_, fun j => ?_⟩
          · simp only [directory_set, if_true]
          · by_cases hj : i = j <;> simp [hj]
        · refine ⟨dropAxis t.directory[x].bound i, ?_, fun j => ?_⟩
          · simp only [directory_set, if_neg hy, if_true]
          · by_cases hj : i = j <;> simp [hj, hy]
    · cases new.tableId with
      | none => exact ⟨t.directory[id].bound, by rw [directory_set, if_neg hx], fun j => by simp [hx]⟩
      | some y =>
        by_cases hy : y = id
        · subst hy
          refine ⟨addAxis t.directory[y].bound i, ?_, fun j => ?_⟩
          · simp only [directory_set, if_neg hx, if_true]
          · by_cases hj : i = j <;> simp [hj]
        · refine ⟨t.directory[id].bound, ?_, fun j => by simp [hx, hy]⟩
          simp only [directory_set, if_neg hx, if_neg hy]

theorem calm_rebind (i : AxisIdx) (old new : Law) (t : TableMemory) : t.Calm (t.rebind i old new) := by
  have h := rebind_entry i old new t
  refine ⟨?_, ?_, ?_, ?_, ?_, ?_, fun id => ?_⟩
  case refine_7 =>
    obtain ⟨b, hb, -⟩ := h id
    exact ⟨b, hb⟩
  case refine_6 => left; unfold TableMemory.rebind; cases old.tableId <;> cases new.tableId <;> rfl
  all_goals unfold TableMemory.rebind; cases old.tableId <;> cases new.tableId <;> rfl

theorem Act.frame {o : Prop} {s t : State} (h : Act o s t) : Frame s t := by
  cases h with
  | clock k hsky hshow _ =>
    exact ⟨fun _ => .refl _, fun _ => .inl rfl, ⟨_, rfl⟩, id, workSound_congr rfl hsky hshow⟩
  | cues q hq _ => exact ⟨fun _ => .refl _, fun _ => .inl rfl, ⟨_, rfl⟩, hq, id⟩
  | raise c => exact ⟨fun _ => .refl _, fun _ => .inl rfl, ⟨_, rfl⟩, id, id⟩
  | draw => exact ⟨fun _ => .refl _, fun _ => .inl rfl, ⟨_, rfl⟩, id, id⟩
  | work w hw => exact ⟨fun _ => .refl _, fun _ => .inl rfl, ⟨_, rfl⟩, id, hw⟩
  | axes v hv => exact ⟨fun i => (hv i).toKeeps, fun i => .inl (hv i).law, ⟨_, rfl⟩, id, id⟩
  | wake i b hk hl => exact .setAxis hk (.inl hl)
  | abandon i b hb hl => exact .setAxis hb.toKeeps (.inl hl)
  | bind i law hb _ =>
    exact (Frame.setMemory s _).trans (.setAxis (Axis.abandons_bindLaw law _).toKeeps (.inr hb))
  | port _ h => exact h.frame

theorem Act.memory {o : Prop} {s t : State} (h : Act o s t) : s.memory.Calm t.memory := by
  cases h with
  | bind i law _ _ => exact calm_rebind _ _ _ _
  | port _ h => exact h.memory
  | _ => exact .refl _

theorem Run.frame {o : Prop} {s t : State} (h : Run o s t) : Frame s t := by
  induction h with
  | refl => exact .refl s
  | tail _ h ih => exact ih.trans h.frame

theorem Run.memory {o : Prop} {s t : State} (h : Run o s t) : s.memory.Calm t.memory := by
  induction h with
  | refl => exact .refl _
  | tail _ h ih => exact ih.trans h.memory

/-- An invariant that acts keep is kept by a run of them. -/
theorem Run.keeps {o : Prop} {P : State → Prop}
    (hP : ∀ s t, Act o s t → (o → s.memory.startUp = .complete) → P s → P t) {s t : State}
    (h : Run o s t) (ho : o → s.memory.startUp = .complete) (hs : P s) : P t := by
  induction h with
  | refl => exact hs
  | tail h h' ih => exact hP _ _ h' (fun x => (Run.memory h).startUp.trans (ho x)) ih

/-! ### The Table Port -/

theorem PortFrame.refl (s : State) : PortFrame s s :=
  ⟨fun _ => .refl _, rfl, rfl, rfl, rfl, .refl _, rfl⟩

theorem PortFrame.trans {s t u : State} (h : PortFrame s t) (h' : PortFrame t u) : PortFrame s u :=
  ⟨fun i => (h.axes i).trans (h'.axes i), h'.clock.trans h.clock, h'.cues.trans h.cues,
    h'.link.trans h.link, h'.work.trans h.work, h.memory.trans h'.memory,
    h'.directory.trans h.directory⟩

/-- An axis changed as a read or an evaluation changes it, with the port or the stall count. -/
theorem PortFrame.onAxis {s t : State} (i : AxisIdx) (b : Axis) (h : PortFrame s t)
    (hb : (t.axis i).KeepsLaw b) : PortFrame s (t.setAxis i b) := by
  refine h.trans ⟨fun j => ?_, rfl, rfl, rfl, rfl, .refl _, rfl⟩
  rw [State.axis_setAxis]
  split
  · rename_i hij; exact hij ▸ hb
  · exact .refl _

theorem ScanningSound.of_portFrame {s t : State} (h : PortFrame s t) (hs : ScanningSound s) :
    ScanningSound t := by
  intro hscan
  obtain ⟨h₁, h₂, h₃, h₄⟩ := hs (h.memory.startUp.symm.trans hscan)
  exact ⟨by rw [h.clock]; exact h₁, by rw [h.cues]; exact h₂,
    fun i => (h.axes i).state.trans (h₃ i), h.memory.idle_iff.2 h₄⟩

/-- Law 9 is about the fetches and the read in progress alone. -/
theorem ReadsSound.congr {s t : State} (hf : ∀ i, (t.axis i).fetch = (s.axis i).fetch)
    (hs : ∀ i, (t.axis i).fetchState = (s.axis i).fetchState) (hp : t.port.reading = s.port.reading)
    (h : ReadsSound s) : ReadsSound t := by
  unfold ReadsSound Axis.atPort
  simp only [hf, hs, hp]
  exact h

/-- The read an axis asks for depends on its fetch, its law and the entry's segments. -/
theorem askedRead_congr {s t : State} {i : AxisIdx} (hf : (t.axis i).fetch = (s.axis i).fetch)
    (hs : (t.axis i).fetchState = (s.axis i).fetchState) (hl : (t.axis i).law = (s.axis i).law)
    (he : ∀ id, (t.entry id).segments = (s.entry id).segments) : t.askedRead i = s.askedRead i := by
  simp only [State.askedRead, State.waiting, State.readTarget, hf, hs, hl, he] <;> rfl

theorem askedRead_of_not_waiting {s : State} {i : AxisIdx} (h : (s.axis i).fetchState ≠ .waiting) :
    s.askedRead i = none := by
  simp [State.askedRead, State.waiting, h]

/-- No grant is due where every axis asks for no more than before and the port and the engine stand, or the
engine holds reads up. -/
theorem GrantsSound.mono {s t : State} (hstart : t.memory.startUp = s.memory.startUp)
    (hasked : ∀ i, t.askedRead i = s.askedRead i ∨ t.askedRead i = none)
    (hport : t.port.reading = s.port.reading)
    (heng : t.memory.engine = s.memory.engine ∨ t.memory.engine.grants = false)
    (hidle : s.memory.startUp = .scanning → ∀ i, (s.axis i).fetchState = .idle →
      (t.axis i).fetchState = .idle)
    (h : GrantsSound s) : GrantsSound t := by
  obtain ⟨hdue, hscan⟩ := h
  refine ⟨fun i r hr => ?_, fun hs i => hidle (hstart.symm.trans hs) i (hscan (hstart.symm.trans hs) i)⟩
  rcases heng with heng | heng
  · rw [hport, heng]
    rcases hasked i with ha | ha
    · exact hdue i r (ha.symm.trans hr)
    · rw [ha] at hr; cases hr
  · exact .inr heng

/-- After the port's grant none is due (R50). -/
theorem grantsSound_grantRead {s : State}
    (h : s.memory.startUp = .scanning → ∀ i, (s.axis i).fetchState = .idle) :
    GrantsSound (grantRead s) := by
  have hall : ∀ last i : AxisIdx, i ∈ serviceOrder last := by decide
  unfold grantRead
  split
  · split
    · rename_i hnone
      rw [List.findSome?_eq_none_iff] at hnone
      exact ⟨fun i r hr => (by rw [hnone i (hall _ i)] at hr; cases hr), h⟩
    · rename_i r hsome
      obtain ⟨i, -, hi⟩ := List.exists_of_findSome?_eq_some hsome
      refine ⟨fun _ _ _ => .inl (by simp), fun hscan => ?_⟩
      have hidle := h hscan i
      rw [(askedRead_axis hi).2.1] at hidle
      cases hidle
  · rename_i hbusy
    refine ⟨fun _ _ _ => ?_, h⟩
    by_cases hr : s.port.reading = none
    · exact .inr (by simpa [hr] using hbusy)
    · exact .inl hr

theorem portStep_refl (s : State) : PortStep s s := ⟨.refl s, id, fun _ _ h => h⟩

theorem portStep_setSuspendRequest (s : State) (b : Bool) : PortStep s (s.setSuspendRequest b) :=
  ⟨⟨fun _ => .refl _, rfl, rfl, rfl, rfl, .refl _, rfl⟩, id, fun _ _ h => h⟩

theorem portStep_raiseSuspend (s : State) : PortStep s (raiseSuspend s) := by
  rcases raiseSuspend_cases s with h | h <;> rw [h]
  · exact portStep_refl s
  · exact portStep_setSuspendRequest s true

/-- A resumed engine holds reads up (R53). -/
theorem grants_resumed {e : EngineState} (h : e.suspended = true) : e.resumed.grants = false := by
  cases e <;> simp_all [EngineState.suspended, EngineState.resumed, EngineState.grants]

theorem portStep_resumeIfIdle (s : State) : PortStep s (resumeIfIdle s) := by
  rcases resumeIfIdle_cases s with h | ⟨hsus, -, -, h⟩ <;> rw [h]
  · exact portStep_refl s
  · exact ⟨⟨fun _ => .refl _, rfl, rfl, rfl, rfl,
      ⟨rfl, rfl, rfl, rfl, rfl, .inr rfl, fun _ => ⟨_, rfl⟩⟩, rfl⟩, id,
      fun _ _ => GrantsSound.mono rfl (fun _ => .inl rfl) rfl (.inr (grants_resumed hsus)) fun _ _ => id⟩

/-- The state with the Table Stall count replaced. -/
theorem calm_stalls (t : TableMemory) (n : Nat) : t.Calm { t with stalls := n } :=
  ⟨rfl, rfl, rfl, rfl, rfl, .inl rfl, fun _ => ⟨_, rfl⟩⟩

theorem portStep_countStall (s : State) (i : AxisIdx) : PortStep s (countStall s i) := by
  rcases countStall_cases s i with h | h <;> rw [h]
  · exact portStep_refl s
  have hax : ∀ j, (countStall s i).axis j = s.axis j ∨
      (countStall s i).axis j = { s.axis j with stallCounted := true } := fun j => by
    rw [h, State.axis_onAxis]
    split
    · rename_i hij; subst hij; exact .inr rfl
    · exact .inl rfl
  rw [← h]
  have hf : ∀ j, ((countStall s i).axis j).fetch = (s.axis j).fetch := fun j => by
    rcases hax j with e | e <;> rw [e]
  have hs : ∀ j, ((countStall s i).axis j).fetchState = (s.axis j).fetchState := fun j => by
    rcases hax j with e | e <;> rw [e]
  have hl : ∀ j, ((countStall s i).axis j).law = (s.axis j).law := fun j => by
    rcases hax j with e | e <;> rw [e]
  have hport : (countStall s i).port.reading = s.port.reading := by rw [h]; rfl
  refine ⟨?_, ReadsSound.congr hf hs hport, fun _ _ =>
    GrantsSound.mono (by rw [h]; rfl)
      (fun j => .inl (askedRead_congr (hf j) (hs j) (hl j) fun id => by rw [h]; rfl)) hport
      (.inl (by rw [h]; rfl)) fun _ j e => (hs j).trans e⟩
  rw [h]
  exact PortFrame.onAxis i _ (t := { s with memory := { s.memory with stalls := _ } })
    ⟨fun _ => .refl _, rfl, rfl, rfl, rfl, calm_stalls _ _, rfl⟩ (Axis.keepsLaw_fetch _ _ _ _ _)

theorem portFrame_grantRead (s : State) : PortFrame s (grantRead s) := by
  rcases grantRead_cases s with h | ⟨r, -, -, -, h⟩ <;> rw [h]
  · exact .refl s
  · exact PortFrame.onAxis r.axis _ (t := { s with port := _ })
      ⟨fun _ => .refl _, rfl, rfl, rfl, rfl, .refl _, rfl⟩ (Axis.keepsLaw_fetch _ _ _ _ _)

theorem ReadsSound.grantRead {s : State} (h : ReadsSound s) : ReadsSound (grantRead s) := by
  rcases grantRead_cases s with he | ⟨r, hnone, -, hasked, he⟩ <;> rw [he]
  · exact h
  obtain ⟨hport, hfetch⟩ := h
  obtain ⟨-, hwait, -⟩ := askedRead_axis hasked
  have hfree : ∀ j, ¬(s.axis j).atPort := fun j hj => by
    obtain ⟨_, hr, -⟩ := (hport j).1 hj
    rw [hnone] at hr; cases hr
  have hax : ∀ j, (s.axis j).fetchState = .waiting ∨ (s.axis j).fetchState = .granted →
      (s.axis j).fetch ≠ none := hfetch
  refine ⟨fun j => ?_, fun j => ?_⟩ <;> rw [State.axis_onAxis] <;> split
  · rename_i hj
    exact ⟨fun _ => ⟨r, rfl, hj⟩, fun _ => .inl rfl⟩
  · rename_i hj
    refine ⟨fun hat => absurd hat (hfree j), ?_⟩
    rintro ⟨_, ⟨⟩, hr⟩
    exact absurd hr hj
  · rename_i hj
    exact fun _ => hax r.axis (.inl hwait)
  · exact hax j

theorem portStep_grantRead (s : State) : PortStep s (grantRead s) :=
  ⟨portFrame_grantRead s, ReadsSound.grantRead, fun _ _ h => grantsSound_grantRead h.2⟩

theorem portStep_postRead_frame (i : AxisIdx) (s : State) :
    PortFrame s (postRead i s) ∧ (ReadsSound s → ReadsSound (postRead i s)) := by
  rcases postRead_cases i s with ⟨-, h⟩ | ⟨-, h | h⟩ <;> rw [h]
  · exact ⟨portFrame_grantRead s, ReadsSound.grantRead⟩
  · exact ⟨(portStep_countStall s i).toPortFrame, (portStep_countStall s i).reads⟩
  · exact ⟨(portStep_raiseSuspend s).toPortFrame, (portStep_raiseSuspend s).reads⟩

/-- Once the port has had its part no grant is due: it is made, or the engine holds reads up (R50). -/
theorem grantsSound_postRead {i : AxisIdx} {s : State} (h : s.memory.startUp ≠ .scanning) :
    GrantsSound (postRead i s) := by
  rcases postRead_cases i s with ⟨-, e⟩ | ⟨hg, -⟩
  · rw [e]
    exact grantsSound_grantRead fun hs => absurd hs h
  · have hfr := (portStep_postRead_frame i s).1
    refine ⟨fun _ _ _ => .inr ?_, fun hs => absurd (hfr.memory.startUp.symm.trans hs) h⟩
    rcases hfr.memory.engine with e | e <;> rw [e]
    · exact hg
    · cases he : s.memory.engine <;> simp_all [EngineState.resumed, EngineState.grants]

/-- An evaluation with its read keeps law 9 and leaves no grant due (R44, R50). -/
theorem portStep_evaluateAxis (u : LaneUpdate) {i : AxisIdx} {s : State} (hs : (s.axis i).state ≠ .off) :
    PortStep s (evaluateAxis u i s) := by
  have hask := (s.axis i).mayAsk_evaluate s u
  have hframe : PortFrame s (s.setAxis i ((s.axis i).evaluate s u)) :=
    PortFrame.onAxis i _ (.refl s) ((s.axis i).keepsLaw_evaluate s u hs)
  have hreads : ReadsSound s → ReadsSound (s.setAxis i ((s.axis i).evaluate s u)) := by
    rintro ⟨hport, hfetch⟩
    have hsame : ((s.axis i).evaluate s u).atPort ↔ (s.axis i).atPort := by
      unfold Axis.atPort
      rcases hask with ⟨-, e⟩ | ⟨hnone, -, e⟩
      · rw [e]
      · have := hfetch i
        rw [e]
        cases hfs : (s.axis i).fetchState <;> simp_all
    have hasked : ((s.axis i).evaluate s u).fetchState = .waiting ∨
        ((s.axis i).evaluate s u).fetchState = .granted → ((s.axis i).evaluate s u).fetch ≠ none := by
      rcases hask with ⟨e, e'⟩ | ⟨-, e, -⟩
      · rw [e, e']; exact hfetch i
      · exact fun _ => e
    refine ⟨fun j => ?_, fun j => ?_⟩ <;> rw [State.axis_setAxis] <;> split
    · rename_i hij; subst hij; exact hsame.trans (hport i)
    · exact hport j
    · exact hasked
    · exact hfetch j
  have hscan : ScanningSound s → s.memory.startUp ≠ .scanning := fun h hc => hs ((h hc).2.2.1 i)
  unfold evaluateAxis
  dsimp only
  split
  · obtain ⟨hp, hr⟩ := portStep_postRead_frame i (s.setAxis i ((s.axis i).evaluate s u))
    exact ⟨hframe.trans hp, hr ∘ hreads, fun h _ _ => grantsSound_postRead (hscan h)⟩
  · rename_i hnew
    refine ⟨hframe, hreads, fun hscanning hsound hg =>
      GrantsSound.mono (s := s) rfl (fun j => ?_) rfl (.inl rfl)
        (fun hc => absurd hc (hscan hscanning)) hg⟩
    by_cases hij : i = j
    · subst hij
      have hax : (s.setAxis i ((s.axis i).evaluate s u)).axis i = (s.axis i).evaluate s u :=
        State.axis_setAxis_same s i _
      rcases hask with ⟨e, e'⟩ | ⟨hnone, -, e⟩
      · exact .inl (askedRead_congr (by rw [hax]; exact e) (by rw [hax]; exact e')
          (by rw [hax]; exact ((s.axis i).onlyAims_evaluate s u).law) fun _ => rfl)
      · have hidle : (s.axis i).fetchState ≠ .waiting := fun hw => hsound.2 i (.inl hw) hnone
        refine .inr (askedRead_of_not_waiting fun hw => hnew ⟨?_, ?_⟩)
        · simpa [State.waiting] using hw
        · simpa [State.waiting] using hidle
    · left
      have hax := State.axis_setAxis_ne s hij ((s.axis i).evaluate s u)
      exact askedRead_congr (by rw [hax]) (by rw [hax]) (by rw [hax]) fun _ => rfl

/-- A completed read leaves its axis with no read in progress, and a read that it asks for next belongs to a
fetch (R47, R49). -/
theorem takeRead_fetch (k : KnotRef) {a : Axis} (hat : a.atPort)
    (hf : a.fetchState = .waiting ∨ a.fetchState = .granted → a.fetch ≠ none) :
    ¬(a.takeRead k).atPort ∧
      ((a.takeRead k).fetchState = .waiting ∨ (a.takeRead k).fetchState = .granted →
        (a.takeRead k).fetch ≠ none) := by
  unfold Axis.takeRead
  split
  · rename_i f _ _
    by_cases h : (a.holdFetch (f.take k)).fetch = none <;> simp [Axis.atPort, h]
  · rename_i f _ hfetch
    simp [Axis.atPort, hfetch]
  · rename_i hfetch _
    exact absurd hfetch (by simp_all)
  · simp [Axis.atPort]
  · rename_i hs; simp [Axis.atPort, hs] at hat
  · rename_i hs; simp [Axis.atPort, hs] at hat

/-- The completion of a read, as its part in the axis and the port's part after it. -/
theorem portStep_completeRead (s : State) : PortStep s (completeRead s) := by
  unfold completeRead
  split
  · exact portStep_refl s
  rename_i r hr
  dsimp only
  have hframe : PortFrame s ({ s with port := { s.port with reading := none } }.onAxis r.axis
      (fun a => a.takeRead (s.knotAt r))) :=
    PortFrame.onAxis r.axis _ (t := { s with port := _ })
      ⟨fun _ => .refl _, rfl, rfl, rfl, rfl, .refl _, rfl⟩ (Axis.keepsLaw_takeRead _ _)
  have hreads : ReadsSound s → ReadsSound ({ s with port := { s.port with reading := none } }.onAxis
      r.axis (fun a => a.takeRead (s.knotAt r))) := by
    rintro ⟨hport, hfetch⟩
    obtain ⟨hfree, hasks⟩ := takeRead_fetch (s.knotAt r) ((hport r.axis).2 ⟨r, hr, rfl⟩)
      (hfetch r.axis)
    refine ⟨fun j => ?_, fun j => ?_⟩ <;> rw [State.axis_onAxis] <;> split
    · exact ⟨fun h => absurd h hfree, by rintro ⟨_, ⟨⟩, -⟩⟩
    · rename_i hj
      refine ⟨fun h => ?_, by rintro ⟨_, ⟨⟩, -⟩⟩
      obtain ⟨r', hr', hj'⟩ := (hport j).1 h
      rw [hr] at hr'; cases hr'
      exact absurd hj' hj
    · exact hasks
    · exact hfetch j
  generalize ({ s with port := { s.port with reading := none } }.onAxis r.axis
      (fun a => a.takeRead (s.knotAt r))) = s₁ at hframe hreads
  have hpost : PortFrame s₁ (if s₁.waiting r.axis then postRead r.axis s₁ else s₁) ∧
      (ReadsSound s₁ → ReadsSound (if s₁.waiting r.axis then postRead r.axis s₁ else s₁)) := by
    split
    · exact portStep_postRead_frame _ _
    · exact ⟨.refl _, id⟩
  generalize (if s₁.waiting r.axis then postRead r.axis s₁ else s₁) = s₂ at hpost
  have hresume := portStep_resumeIfIdle s₂
  have hall : PortFrame s (resumeIfIdle s₂) := (hframe.trans hpost.1).trans hresume.toPortFrame
  refine ⟨hall.trans (portFrame_grantRead _),
    fun h => (hresume.reads (hpost.2 (hreads h))).grantRead, fun _ hs hg => ?_⟩
  refine grantsSound_grantRead fun hscan => ?_
  have hidle := hg.2 (hall.memory.startUp.symm.trans hscan) r.axis
  have hat := (hs.1 r.axis).2 ⟨r, hr, rfl⟩
  simp [Axis.atPort, hidle] at hat

end Sys2Proof.Machine
end

section
/-! The operations of the model as runs of acts: faults, holds, the requests a cue may make, the samples of
Sense Inputs, and the work of a Lane Update. -/

namespace Sys2Proof.Machine

section
variable {o : Prop} {s : State}

theorem run_port {t : State} (h : PortStep s t) : Run o s t := (Act.port s t h).run

theorem run_raise (s : State) (c : Cause) : Run o s (s.raise c) := (Act.raise s c).run

/-- One axis changed twice. -/
theorem setAxis_setAxis (s : State) (i : AxisIdx) (a b : Axis) :
    (s.setAxis i a).setAxis i b = s.setAxis i b := by
  simp [State.setAxis]

/-! ### Outputs, faults, end stops and holds -/

theorem run_handOver (i : AxisIdx) {n : Int} (hn : n.natAbs ≤ 500) : Run o s (handOver i n s) :=
  run_onAxis (Axis.calm_handOver _ hn)

theorem run_faultAxis {i : AxisIdx} (cause : FaultCause) (h : (s.axis i).state ≠ .off) :
    Run o s (faultAxis i cause s) :=
  ((Act.abandon s i _ (Axis.abandons_enterFault cause s.clock.showLane h) rfl).run.trans
    (run_raise _ _)).trans (run_port (portStep_resumeIfIdle _))

theorem run_takeCause (cause : FaultCause) (i : AxisIdx) (s : State) : Run o s (takeCause cause i s) := by
  unfold takeCause
  split
  · exact .refl s
  · exact run_onAxis (Axis.calm_further _ _)
  all_goals exact run_faultAxis cause (by simp [*])

/-- A run over a list of axes. -/
theorem run_foldl {α : Type} {f : State → α → State} (hf : ∀ s x, Run o s (f s x)) (l : List α)
    (s : State) : Run o s (l.foldl f s) := by
  induction l generalizing s with
  | nil => exact .refl s
  | cons x rest ih => exact (hf s x).trans (ih _)

theorem run_haltAsserted (s : State) : Run o s (haltAsserted s) :=
  run_foldl (fun s i => run_takeCause .halt i s) allAxes s

theorem run_limitAxis {i : AxisIdx} {stop : EndStop} (h : (s.axis i).state ≠ .off) :
    Run o s (limitAxis i stop s) :=
  (run_onAxis (Axis.calm_enterLimited h)).trans (run_raise _ _)

theorem run_handHold (before : Bool) (s : State) : Run o s (handHold before s) := by
  unfold handHold
  split
  · exact run_mapAxes Axis.calm_holdAsserted
  · exact run_mapAxes Axis.calm_holdReleased
  all_goals exact .refl s

/-- A change of the clock that leaves both lanes and its state alone. -/
theorem run_setClock (k : SkyClock) (hsky : k.skyLane = s.clock.skyLane)
    (hshow : k.showLane = s.clock.showLane) (hstate : k.state = s.clock.state) :
    Run o s (s.setClock k) :=
  (Act.clock s k hsky hshow hstate).run

theorem run_setSoftHold (on : Bool) (s : State) : Run o s (setSoftHold on s) :=
  (run_setClock { s.clock with softHold := on } rfl rfl rfl).trans (run_handHold _ _)

/-! ### The requests a cue may make -/

theorem run_answerDone {t : State} (h : Run o s t) : Run o s (answerDone t).state := h

theorem run_answerData {t : State} {data : List Byte} (h : Run o s t) :
    Run o s (answerData data t).state := h

theorem run_answerClamped {t : State} {x : Bool} (h : Run o s t) : Run o s (answerClamped x t).state := h

theorem run_onAxisIndex (axis : Byte) {f : AxisIdx → Result} (h : ∀ i, Run o s (f i).state) :
    Run o s (onAxisIndex axis s f).state := by
  unfold onAxisIndex
  split
  · exact h _
  · exact .refl s

/-- What an accepted ENABLE has checked (R96). -/
theorem enable_checks {a : Axis} (h : enableRefusal a s = none) :
    a.state = .off ∧ a.configsAgree = true ∧ s.lawUsable a.law = true := by
  unfold enableRefusal at h
  split_ifs at h
  simp_all

theorem run_doEnable (ho : o) (axis : Byte) (s : State) : Run o s (doEnable axis s).state := by
  refine run_onAxisIndex axis fun i => ?_
  split
  · exact .refl s
  · rename_i hcheck
    obtain ⟨-, hconfig, hlaw⟩ := enable_checks hcheck
    obtain ⟨hk, hl, hf, hs⟩ := Axis.keeps_enable hconfig
    exact (Act.wake s i _ hk hl hf hs ho (hl ▸ hlaw)).run

theorem run_doDisable (axis : Byte) (s : State) : Run o s (doDisable axis s).state := by
  refine run_onAxisIndex axis fun i => ?_
  split
  · exact .refl s
  · exact .refl s
  all_goals
    exact (Act.abandon s i _ (Axis.abandons_disable (by simp [*])) rfl).run.trans
      (run_port (portStep_resumeIfIdle _))

theorem run_doTrack (axis : Byte) (s : State) : Run o s (doTrack axis s).state := by
  refine run_onAxisIndex axis fun i => ?_
  split
  · exact .refl s
  · rename_i hcheck
    have hready : (s.axis i).state = .ready := by
      unfold trackRefusal at hcheck
      split_ifs at hcheck with h
      exact not_not.1 h
    exact run_answerDone (run_onAxis (Axis.calm_track _ hready))

theorem run_doStop (axis : Byte) (s : State) : Run o s (doStop axis s).state := by
  refine run_onAxisIndex axis fun i => ?_
  split
  · refine run_answerDone (run_onAxis (Axis.calm_state _ ?_ ?_ ?_ ?_)) <;> simp [*]
  · refine run_answerDone (run_onAxis (Axis.calm_state _ ?_ ?_ ?_ ?_)) <;> simp [*]
  · rename_i h
    exact run_answerDone (run_onAxis (Axis.calm_stopFromLimited h))
  all_goals exact .refl s

/-- A law that a request carries is on a lower axis (R21, check 4). -/
theorem readLaw_below {i : AxisIdx} {kind : Byte} {body : LawBody} {law : Law}
    (h : readLaw i kind body = .ok law) : law.Below i := by
  rintro source n d p rfl
  have hwrong : ∀ k : Nat, (if k ≤ 4 then Except.error ResultCode.badLength
      else .error .outOfRange) ≠ Except.ok (Law.coupled source n d p) := fun k h => by
    split at h <;> cases h
  unfold readLaw at h
  generalize kind.toNat = k at h
  cases body with
  | empty =>
    rcases k with _ | _ | _ | _ | _ | k
    · cases h
    iterate 3 exact absurd h (hwrong _)
    · cases h
    · exact absurd h (hwrong _)
  | linear =>
    rcases k with _ | _ | _ | _ | _ | k
    · exact absurd h (hwrong _)
    · cases h
    all_goals exact absurd h (hwrong _)
  | table id offset =>
    rcases k with _ | _ | _ | _ | _ | k
    iterate 2 exact absurd h (hwrong _)
    · change (match readTable id with | none => _ | some _ => _) = _ at h
      split at h <;> cases h
    all_goals exact absurd h (hwrong _)
  | coupled =>
    rcases k with _ | _ | _ | _ | _ | k
    iterate 3 exact absurd h (hwrong _)
    · change (if _ then _ else _) = _ at h
      split at h
      · cases h
      · split at h
        · rename_i hlt
          cases h
          exact hlt
        · cases h
    all_goals exact absurd h (hwrong _)

theorem run_doAxisLaw (axis kind : Byte) (body : LawBody) (s : State) :
    Run o s (doAxisLaw axis kind body s).state := by
  refine run_onAxisIndex axis fun i => ?_
  split
  · exact .refl s
  · rename_i law hlaw
    split
    · exact .refl s
    · split
      · exact .refl s
      · rename_i husable
        refine (Act.bind s i law (readLaw_below hlaw) fun hs => ?_).run.trans
          (run_port (portStep_resumeIfIdle _))
        simpa [hs] using husable

theorem run_doMove (axis : Byte) (endPosition arrival : BitVec 64) (s : State) :
    Run o s (doMove axis endPosition arrival s).state := by
  refine run_onAxisIndex axis fun i => ?_
  split
  · exact .refl s
  · split
    · exact .refl s
    · rename_i hroom
      exact run_answerData (run_onAxis (Axis.calm_move _ hroom))

theorem run_doFlush (axis : Byte) (s : State) : Run o s (doFlush axis s).state :=
  run_onAxisIndex axis fun _ => run_answerData (run_onAxis (Axis.calm_flush _))

/-- A cueable request is a run of acts; it wakens axes only where `o` holds. -/
theorem run_performCueable (ho : o) (r : CueRequest) (s : State) : Run o s (performCueable r s).state := by
  cases r with
  | skySet value => exact run_setClock _ rfl rfl rfl
  | showSet value => exact run_setClock _ rfl rfl rfl
  | skyRate endRate length => exact run_setClock _ rfl rfl rfl
  | hold => exact run_setSoftHold true s
  | release => exact run_setSoftHold false s
  | axisLaw axis kind body => exact run_doAxisLaw axis kind body s
  | enable axis => exact run_doEnable ho axis s
  | disable axis => exact run_doDisable axis s
  | track axis => exact run_doTrack axis s
  | stop axis => exact run_doStop axis s
  | move axis endPosition arrival => exact run_doMove axis endPosition arrival s
  | flush axis => exact run_doFlush axis s

/-! ### Sense Inputs -/

theorem run_handInput (i : AxisIdx) (k : InputKind) (active : Bool) (s : State) :
    Run o s (handInput i k active s) := by
  have hlimit : ∀ stop, Run o s (handLimit i stop active s) := fun stop => by
    unfold handLimit
    split
    · exact .refl s
    · split
      · rename_i hs
        split
        · exact run_faultAxis _ (by simp [hs])
        · exact .refl s
      · split
        · rename_i hmeets
          exact run_limitAxis (Axis.ne_off_of_meetsStop hmeets)
        · exact .refl s
  cases k with
  | home =>
    show Run o s (handHome i active s)
    unfold handHome
    split
    · exact run_onAxis (Axis.calm_homingTakesHome _ _)
    · exact .refl s
  | limPos => exact hlimit .limPos
  | limNeg => exact hlimit .limNeg
  | drvFault =>
    show Run o s (handDrvFault i active s)
    unfold handDrvFault
    split
    · exact run_takeCause _ _ _
    · exact .refl s

theorem run_sampleInput (i : AxisIdx) (k : InputKind) (level : Level) (s : State) :
    Run o s (sampleInput i k level s) := by
  unfold sampleInput
  dsimp only
  have h := run_setAxis (o := o) (s := s) ((s.axis i).calm_filters
    ((s.axis i).filters.put k (((s.axis i).filters.get k).sample ((s.axis i).sense.windows.get k)
      level).1))
  split
  · exact h
  · exact h.trans (run_handInput _ _ _ _)

theorem run_sampleHold (level : Level) (s : State) : Run o s (sampleHold level s) :=
  (run_setClock
    { s.clock with
      holdLine := (s.clock.holdLine.sample s.clock.settings.holdWindow (Level.asserted level)).1 }
    rfl rfl rfl).trans (run_handHold _ _)

theorem run_sampleHalt (level : Level) (s : State) : Run o s (sampleHalt level s) := by
  unfold sampleHalt
  dsimp only
  have h := run_setClock (o := o) (s := s)
    { s.clock with
      haltLine := (s.clock.haltLine.sample s.clock.settings.haltWindow (Level.asserted level)).1 }
    rfl rfl rfl
  split
  · exact h.trans (run_haltAsserted _)
  · exact h

theorem run_sampleLine (line : FilterLine) (level : Level) (s : State) :
    Run o s (sampleLine line level s) := by
  cases line with
  | axisInput axis input => exact run_sampleInput axis input level s
  | holdLine => exact run_sampleHold level s
  | haltLine => exact run_sampleHalt level s

theorem run_acceptInput (i : AxisIdx) (k : InputKind) (level : Level) (s : State) :
    Run o s (acceptInput i k level s) := by
  unfold acceptInput
  split
  · exact run_sampleInput i k level s
  · exact .refl s

theorem run_indexEventTaken (i : AxisIdx) (s : State) : Run o s (indexEventTaken i s) := by
  unfold indexEventTaken
  dsimp only
  split
  · exact .refl s
  · split
    · exact run_onAxis (Axis.calm_homingTakesIndex _)
    · have h := run_setAxis (o := o) (s := s)
        ((s.axis i).calm_take { count := (s.axis i).encoder.count, time := s.clock.showLane })
      split
      · exact h
      · exact h.trans (run_raise _ _)

theorem run_seeIndex (i : AxisIdx) (level : Level) (s : State) : Run o s (seeIndex i level s) := by
  unfold seeIndex
  dsimp only
  have h := run_setAxis (o := o) (s := s) ((s.axis i).calm_index (some level))
  split
  · exact h.trans (run_indexEventTaken _ _)
  · exact h

theorem run_doAxisSenseConfig (axis : Byte) (f : SenseFields) (s : State) :
    Run o s (doAxisSenseConfig axis f s).state := by
  refine run_onAxisIndex axis fun i => ?_
  split
  · exact .refl s
  · split
    · exact .refl s
    · refine (run_onAxis (Axis.calm_configureSense _ _)).trans
        (run_foldl (fun s' k => ?_) _ _)
      unfold handTurned
      split
      · exact .refl _
      · exact run_handInput _ _ _ _

/-! ### The turns of a Lane Update -/

theorem past_eq : (fun a : Axis => { a with stopTaken := false }) = Axis.past := rfl

/-- What a turn that stands leaves (R79). -/
theorem run_standingTurn (i : AxisIdx) (s : State) : Run o s (standingTurn i s) :=
  (run_onAxis (Axis.calm_lag _ _)).trans (run_handOver i (by simp))

/-- A turn whose last part is the motion of its axis. -/
theorem turned_onAxis (i : AxisIdx) (s : State) (b : Axis) :
    (handOver i (stepCount (s.axis i) b) (s.setAxis i b)).onAxis i Axis.past =
      s.setAxis i ((s.axis i).turned b) := by
  simp only [handOver, State.onAxis, State.axis_setAxis_same, setAxis_setAxis]
  rfl

/-- The motion of a driven turn, with the stops before it past (R79, R90, R103). -/
theorem run_drivenTurn {i : AxisIdx} {s : State} (hs : (s.axis i).state ≠ .off)
    (hf : (s.axis i).state ≠ .faulted) : Run o s ((drivenTurn i s).onAxis i Axis.past) := by
  have hpast : ∀ t : State, Run o t (t.onAxis i Axis.past) := fun t => run_onAxis (Axis.calm_past _)
  rcases drivenTurn_cases i s with ⟨stop, hstop, h⟩ | ⟨-, ⟨-, h⟩ | ⟨-, h⟩⟩ <;> rw [h]
  · exact ((run_limitAxis hs).trans (run_standingTurn i _)).trans (hpast _)
  · exact (run_standingTurn i s).trans (hpast _)
  · have hturn := turned_onAxis i s (s.axis i).moveTowardTarget
    rw [moveTurn, show s.onAxis i Axis.moveTowardTarget = s.setAxis i (s.axis i).moveTowardTarget from rfl,
      hturn]
    exact run_setAxis (Axis.calm_moveTowardTarget hs hf)

/-- The completion test does not look at the stops of before the turn (R119). -/
theorem testCompletion_past (a : Axis) : a.testCompletion.past = a.past.testCompletion := by
  unfold Axis.testCompletion Axis.completeHoming Axis.giveTarget Axis.clampTarget Axis.tieEncoder
    Axis.past
  dsimp only
  split_ifs <;> rfl

theorem run_homingTurn {i : AxisIdx} {s : State} (hs : (s.axis i).state = .homing) :
    Run o s ((homingTurn i s).onAxis i Axis.past) := by
  have hpast : ∀ t : State, Run o t (t.onAxis i Axis.past) := fun t => run_onAxis (Axis.calm_past _)
  rcases homingTurn_cases i s with h | ⟨-, h⟩ | ⟨-, h⟩ <;> rw [h]
  · exact ((run_faultAxis _ (by simp [hs])).trans (run_handOver i (by simp))).trans (hpast _)
  · refine (((run_onAxis (Axis.calm_lag _ _)).trans (run_handOver i (by simp))).trans
      (run_onAxis (Axis.calm_testCompletion ?_))).trans (hpast _)
    simp [handOver, hs]
  · have hturn : ((handOver i (stepCount (s.axis i) (s.axis i).homingMove)
          (s.onAxis i Axis.homingMove)).onAxis i Axis.testCompletion).onAxis i Axis.past =
        (s.setAxis i ((s.axis i).turned (s.axis i).homingMove)).onAxis i Axis.testCompletion := by
      rw [← turned_onAxis]
      simp only [State.onAxis, State.axis_setAxis_same, setAxis_setAxis, testCompletion_past]
    rw [hturn]
    refine (run_setAxis (Axis.calm_homingMove hs)).trans (run_onAxis (Axis.calm_testCompletion ?_))
    rw [State.axis_setAxis_same]
    exact hs

theorem run_axisTurn (u : LaneUpdate) (i : AxisIdx) (s : State) : Run o s (axisTurn u i s) := by
  have hpast : ∀ t : State, Run o t (t.onAxis i Axis.past) := fun t => run_onAxis (Axis.calm_past _)
  have hidle : Run o s (idleTurn i s) :=
    (run_onAxis (Axis.calm_lag _ _)).trans (run_handOver i (by simp))
  have hfault : (s.axis i).state ≠ .off → ∀ cause, Run o s ((faultTurn i cause s).onAxis i Axis.past) :=
    fun h cause => ((run_faultAxis cause h).trans (run_handOver i (by simp))).trans (hpast _)
  have heval : (s.axis i).state ≠ .off → (s.axis i).state ≠ .homing → (s.axis i).state ≠ .faulted →
      Run o s ((evaluatingTurn u i s).onAxis i Axis.past) := by
    intro h₁ h₂ h₃
    have hstate : ((evaluateAxis u i s).axis i).state = (s.axis i).state :=
      ((portStep_evaluateAxis u h₁).axes i).state
    have he : Run o s (evaluateAxis u i s) := run_port (portStep_evaluateAxis u h₁)
    unfold evaluatingTurn
    split
    · exact he.trans (run_drivenTurn (by rw [hstate]; exact h₁) (by rw [hstate]; exact h₃))
    · rename_i hlim
      dsimp only
      have hne : ((evaluateAxis u i s).axis i).state ≠ .off := by rw [hstate]; exact h₁
      split
      · rename_i haway
        refine (he.trans (run_onAxis (Axis.calm_returnFromLimited hne))).trans (run_drivenTurn ?_ ?_)
        all_goals
          rw [State.axis_onAxis_same]
          obtain ⟨r, hr⟩ := Option.isSome_iff_exists.1 haway.2
          simp only [Axis.returnFromLimited, hr]
          cases r <;> simp [Remembered.state]
      · exact (he.trans (run_standingTurn i _)).trans (hpast _)
    · exact run_drivenTurn h₁ h₃
    · exact run_drivenTurn h₁ h₃
    all_goals exact hpast s
  unfold axisTurn
  rw [past_eq]
  unfold turnBody
  split
  · exact hidle.trans (hpast _)
  · exact hidle.trans (hpast _)
  · rename_i hs
    split
    · exact hfault (by simp [hs]) _
    · exact run_homingTurn hs
  all_goals
    split
    · exact hfault (by simp [*]) _
    · split
      · exact hfault (by simp [*]) _
      · exact heval (by simp [*]) (by simp [*]) (by simp [*])

/-! ### The work of a Lane Update -/

/-- The start-up scan is complete, or a cue waits, which no cue does before. -/
def State.Open (s : State) : Prop := s.memory.startUp = .complete ∨ s.cues.records ≠ []

theorem workSound_workLeft {w : UpdateWork} (h : s.work = some w) {turns : List AxisIdx} {firing : Bool}
    (hturns : ∃ n, turns = w.turns.drop n) (hs : WorkSound s) :
    WorkSound (s.setWork (workLeft w.update turns firing)) := by
  obtain ⟨-, ⟨n, hn⟩, hsky, hshow⟩ := hs w h
  obtain ⟨m, hm⟩ := hturns
  intro w' hw'
  unfold workLeft at hw'
  split at hw'
  · cases hw'
  · rename_i hleft
    cases hw'
    refine ⟨?_, ⟨n + m, by rw [hm, hn, List.drop_drop]⟩, hsky, hshow⟩
    by_cases ht : turns = []
    · exact .inr (by simpa [ht] using hleft)
    · exact .inl ht

theorem run_turnStep {w : UpdateWork} (hw : s.work = some w) {i : AxisIdx} {rest : List AxisIdx}
    (ht : w.turns = i :: rest) : Run o s (turnStep w i rest s) :=
  (Act.work s _ (workSound_workLeft hw ⟨1, by simp [ht]⟩)).run.trans (run_axisTurn _ _ _)

theorem cuesOrdered_tail {c : CueRecord} {rest : List CueRecord} (h : CuesOrdered (c :: rest)) :
    CuesOrdered rest :=
  ⟨le_trans (Nat.le_succ _) h.1, h.2.of_cons⟩

/-- A fired cue: its request, and the record of a refusal (R154, R155). -/
theorem run_fireCue (ho : o) (c : CueRecord) (s : State) : Run o s (fireCue c s) := by
  unfold fireCue
  dsimp only
  have h := run_performCueable ho c.request s
  split
  · exact h
  · exact (h.trans (Act.cues _
      { (performCueable c.request s).state.cues with lastFailure := some _, failures := _ } id id).run).trans
      (run_raise _ .cueFailed)

theorem run_passStep {w : UpdateWork} (hw : s.work = some w) : Run s.Open s (passStep w s) := by
  rcases passStep_cases w s with ⟨c, rest, hc, -, h⟩ | h <;> rw [h]
  · have hopen : s.Open := .inr (by simp [hc])
    exact (Act.cues s { s.cues with records := rest } (fun h => cuesOrdered_tail (hc ▸ h))
      (fun h => by simp [hc] at h)).run.trans (run_fireCue hopen c _)
  · exact (Act.work s _ (workSound_workLeft hw ⟨0, rfl⟩)).run

theorem run_workStep (s : State) : Run s.Open s (workStep s) := by
  rcases workStep_cases s with ⟨-, h⟩ | ⟨w, hw, ⟨-, -, h⟩ | ⟨-, h | h⟩ | ⟨i, rest, ht, h | h⟩⟩ <;> rw [h]
  · exact .refl s
  · exact (Act.work s none fun _ w' hw' => by cases hw').run
  · exact run_passStep hw
  · exact (Act.draw s).run.trans (run_passStep (s := s.afterDraw) hw)
  · exact run_turnStep hw ht
  · exact (Act.draw s).run.trans (run_turnStep (s := s.afterDraw) hw ht)

end

/-- Runs one after the other, each open as its own start is. -/
def Runs : State → State → Prop := Relation.ReflTransGen (fun s t => Run s.Open s t)

theorem runs_runWork (n : Nat) (s : State) : Runs s (runWork n s) := by
  induction n generalizing s with
  | zero => exact .refl
  | succ n ih => exact .head (run_workStep s) (ih _)

theorem Runs.frame {s t : State} (h : Runs s t) : Frame s t := by
  induction h with
  | refl => exact .refl s
  | tail _ h ih => exact ih.trans (Run.frame h)

theorem Runs.memory {s t : State} (h : Runs s t) : s.memory.Calm t.memory := by
  induction h with
  | refl => exact .refl _
  | tail _ h ih => exact ih.trans (Run.memory h)

end Sys2Proof.Machine
end

section
/-! What one command can do, said once: a `Change` is a run of acts, an event of the Rewrite Engine, or one of
the few other things a command does to the unit, and every command is a sequence of changes. -/

namespace Sys2Proof.Machine

/-! ### Events of the Rewrite Engine and of the Staging Buffer -/

/-- What an end of a rewrite writes: a segment in canonical form, a completion marker only over a header with
all its knots, and no header but the staged one (R58, R70, R71). -/
structure Closing (s : State) (record : SegmentRecord) (image : SegmentImage) : Prop where
  rise : MemorySound s → keysRise 63 0 image.slots = true
  marker : MarkerSound s → image.marker = true → imageComplete image.header image.slots = true
  table : record.presentTable = none ∨
    record.presentTable = s.memory.staging.header.map Header.table

/-- An event of the Rewrite Engine, or a write of the Staging Buffer. `idle` says that no rewrite was in hand
when the command came, as every such write and every COMMIT needs (R66, R67). -/
inductive MemoryAct (idle : Prop) : State → State → Prop
  | stage (s : State) (g : Staging) (hi : idle) (he : s.memory.engine = .idle)
      (hg : keysRise 63 0 s.memory.staging.slots = true → keysRise 63 0 g.slots = true) :
      MemoryAct idle s { s with memory := { s.memory with staging := g } }
  | accept (s : State) (segment : Nat) (erase : Bool) (hi : idle)
      (hc : commitRefusal segment (some erase) s = none) (hs : s.memory.startUp = .complete) :
      MemoryAct idle s { s with memory := s.memory.accept segment erase }
  | abort (s : State) (he : s.memory.engine ≠ .idle) :
      MemoryAct idle s ((stopPhase s).setEngine .aborting)
  | acknowledge (s : State) (he : s.memory.engine.working = true) :
      MemoryAct idle s (grantRead (resumeIfIdle
        (((stopPhase s).setEngine s.memory.engine.afterAcknowledge).setSuspendRequest false)))
  | program (s : State) (r : Rewrite) (he : s.memory.engine = .erasing)
      (hr : s.memory.rewrite = some r) (hk : r.eraseOnly = false) :
      MemoryAct idle s ({ s with
        memory := s.memory.setImage r.segment
          { SegmentImage.erased with openMark := true } }.setEngine .programming)
  | close (s : State) (outcome : RewriteOutcome) (record : SegmentRecord) (image : SegmentImage)
      (r : Rewrite) (he : s.memory.engine ≠ .idle) (hr : s.memory.rewrite = some r)
      (hc : Closing s record image) : MemoryAct idle s (endRewrite outcome record image r s)

/-! ### Changes -/

/-- One thing a command does. `released` says that it may empty a capture record: by a reply that carries it,
or by a reset. -/
inductive Change (idle released : Prop) : State → State → Prop
  | run {s t : State} (h : Run s.Open s t) : Change idle released s t
  | memory {s t : State} (h : MemoryAct idle s t) : Change idle released s t
  | begin (s : State) : Change idle released s (beginUpdate s)
  | start (s : State) (h : s.memory.startUp = .complete) :
      Change idle released s (s.setClock { s.clock with state := .running })
  | insert (s : State) (c : CueRecord) (h : s.memory.startUp = .complete)
      (hroom : s.cues.records.length < cueCapacity) :
      Change idle released s (s.setCues (insertCue c s.cues.records))
  | clear (s : State) (f : ClearFields) : Change idle released s (cleared f s)
  | carry (s : State) (i : AxisIdx) (h : released) :
      Change idle released s (s.onAxis i Axis.releaseCapture)
  | link {s t : State} (h : t = s.setLink t.link) (hs : LinkSound s → LinkSound t) :
      Change idle released s t
  | reset (s : State) (straps : BitVec 5) (power : Power) (h : released) :
      Change idle released s (resetBlocks straps power s)
  | unitReset (s : State) (straps : BitVec 5) (h : released) :
      Change idle released s (unitReset straps s)
  | scan (s : State) (h : s.memory.startUp = .scanning) :
      Change idle released s ({ s with memory := s.memory.scan }.mapAxes
        (fun a => { a with output := { a.output with mode := .parked } }))
  | queue (s : State) (l : List Instr) : Change idle released s { s with pending := l }

/-- Changes one after the other. -/
def Changes (idle released : Prop) : State → State → Prop :=
  Relation.ReflTransGen (Change idle released)

section
variable {idle released : Prop} {s t u : State}

theorem Changes.refl (s : State) : Changes idle released s s := Relation.ReflTransGen.refl

theorem Changes.trans (h : Changes idle released s t) (h' : Changes idle released t u) :
    Changes idle released s u := Relation.ReflTransGen.trans h h'

theorem Change.changes (h : Change idle released s t) : Changes idle released s t :=
  Relation.ReflTransGen.single h

theorem Run.changes (h : Run s.Open s t) : Changes idle released s t := (Change.run h).changes

theorem Runs.changes (h : Runs s t) : Changes idle released s t :=
  Relation.ReflTransGen.mono (fun _ _ h => .run h) _ _ h

theorem MemoryAct.changes (h : MemoryAct idle s t) : Changes idle released s t :=
  (Change.memory h).changes

theorem changes_port (h : PortStep s t) : Changes idle released s t := Run.changes (run_port h)

/-- What is allowed to release a capture may do all else too. -/
theorem Changes.mayRelease (h : Changes idle False s t) : Changes idle True s t := by
  refine Relation.ReflTransGen.mono (fun _ _ h => ?_) _ _ h
  cases h with
  | run h => exact .run h
  | memory h => exact .memory h
  | begin => exact .begin _
  | start h => exact .start _ h
  | insert c h hroom => exact .insert _ c h hroom
  | clear f => exact .clear _ f
  | carry i h => exact h.elim
  | link h hs => exact .link h hs
  | reset _ _ h => exact h.elim
  | unitReset _ h => exact h.elim
  | scan h => exact .scan _ h
  | queue l => exact .queue _ l

end

/-! ### The Link Port's bounds -/

/-- The bounds of the Link Port, of the port alone. -/
def LinkPort.Sound (k : LinkPort) : Prop :=
  k.replies.length ≤ replyCapacity ∧ k.buffered ≤ returnCapacity ∧
    (∀ f, k.frame = some f → f.chars.length ≤ maxFrame) ∧
    (k.sending = true ↔ k.relay = .ownReply) ∧ (k.sending = true → k.replies ≠ []) ∧
    k.framingErrors ≤ 65535 ∧ k.checkErrors ≤ 65535 ∧ k.requestOverruns ≤ 65535 ∧
    k.returnOverruns ≤ 65535

theorem linkSound_iff (s : State) : LinkSound s ↔ s.link.Sound := Iff.rfl

theorem countUp_le (top k n : Nat) : countUp top k n ≤ top := Nat.min_le_left _ _

theorem LinkPort.Sound.framing {k : LinkPort} (h : k.Sound) (x : Attention) :
    LinkPort.Sound { k with framingErrors := countUp 65535 1 k.framingErrors, attention := x } := by
  obtain ⟨h₁, h₂, h₃, h₄, h₅, -, h₇, h₈, h₉⟩ := h
  exact ⟨h₁, h₂, h₃, h₄, h₅, countUp_le _ _ _, h₇, h₈, h₉⟩

theorem LinkPort.Sound.check {k : LinkPort} (h : k.Sound) (x : Attention) :
    LinkPort.Sound { k with checkErrors := countUp 65535 1 k.checkErrors, attention := x } := by
  obtain ⟨h₁, h₂, h₃, h₄, h₅, h₆, -, h₈, h₉⟩ := h
  exact ⟨h₁, h₂, h₃, h₄, h₅, h₆, countUp_le _ _ _, h₈, h₉⟩

theorem LinkPort.Sound.overrun {k : LinkPort} (h : k.Sound) (x : Attention) :
    LinkPort.Sound { k with requestOverruns := countUp 65535 1 k.requestOverruns, attention := x } := by
  obtain ⟨h₁, h₂, h₃, h₄, h₅, h₆, h₇, -, h₉⟩ := h
  exact ⟨h₁, h₂, h₃, h₄, h₅, h₆, h₇, countUp_le _ _ _, h₉⟩

theorem LinkPort.Sound.setFrame {k : LinkPort} (h : k.Sound) {f : Option FrameIn}
    (hf : ∀ x, f = some x → x.chars.length ≤ maxFrame) : LinkPort.Sound { k with frame := f } := by
  obtain ⟨h₁, h₂, -, h₄, h₅, h₆, h₇, h₈, h₉⟩ := h
  exact ⟨h₁, h₂, hf, h₄, h₅, h₆, h₇, h₈, h₉⟩

/-- A reply joins a queue with room (R167). -/
theorem LinkPort.Sound.reply {k : LinkPort} (h : k.Sound) (hroom : k.replies.length < replyCapacity)
    (r : Reply) : LinkPort.Sound { k with replies := k.replies ++ [r] } := by
  obtain ⟨-, h₂, h₃, h₄, -, h₆, h₇, h₈, h₉⟩ := h
  exact ⟨by simpa using hroom, h₂, h₃, h₄, fun _ => by simp, h₆, h₇, h₈, h₉⟩

theorem LinkPort.sound_reset (straps : BitVec 5) : (LinkPort.reset straps).Sound := by
  simp [LinkPort.Sound, LinkPort.reset, LinkPort.buffered, replyCapacity]

theorem LinkPort.sound_afterReset (straps : BitVec 5) (k : LinkPort) : (k.afterReset straps).Sound :=
  LinkPort.sound_reset straps

/-! ### The forward line and the return line -/

theorem extend_chars_le (c : LinkChar) {f : FrameIn} (h : f.chars.length ≤ maxFrame) :
    (f.extend c).chars.length ≤ maxFrame := by
  unfold FrameIn.extend
  split
  · exact h
  · split
    · exact h
    · simp only [List.length_append, List.length_singleton]
      omega

theorem sound_beginFrame {s : State} (c : LinkChar) (h : LinkSound s) : LinkSound (beginFrame c s) := by
  refine LinkPort.Sound.setFrame h ?_
  rintro _ ⟨⟩
  dsimp only
  split <;> simp [maxFrame]

section
variable {idle released : Prop} (s : State)

theorem changes_link {t : State} (h : t = s.setLink t.link) (hs : LinkSound s → LinkSound t) :
    Changes idle released s t := (Change.link h hs).changes

theorem changes_framingError : Changes idle released s (framingError s) :=
  changes_link s rfl fun h => LinkPort.Sound.framing h _

theorem changes_checkError : Changes idle released s (checkError s) :=
  changes_link s rfl fun h => LinkPort.Sound.check h _

theorem changes_setFrame_none : Changes idle released s (s.setFrame none) :=
  changes_link s rfl fun h => LinkPort.Sound.setFrame h (by simp)

theorem changes_showInCharacter (c : LinkChar) : Changes idle released s (showInCharacter c s) := by
  unfold showInCharacter
  dsimp only
  have h₁ : Changes idle released s (s.setLink { s.link with showOut := some c }) :=
    changes_link s rfl id
  split
  · exact .refl s
  · exact h₁
  · refine h₁.trans ?_
    generalize s.setLink { s.link with showOut := some c } = s
    have hbegin : ∀ s, Changes idle released s (beginFrame c s) := fun s =>
      changes_link s rfl (sound_beginFrame c)
    unfold assemble
    split
    · split
      · exact (changes_framingError s).trans (hbegin _)
      · exact hbegin s
    · exact hbegin s
    · rename_i f _ hf
      refine changes_link s rfl fun h => LinkPort.Sound.setFrame h ?_
      rintro _ ⟨⟩
      exact extend_chars_le c (h.2.2.1 f hf)
    · exact changes_framingError s

theorem sound_relayIn (c : LinkChar) {s : State} (h : LinkSound s) : LinkSound (relayIn c s) := by
  obtain ⟨h₁, h₂, h₃, h₄, h₅, h₆, h₇, h₈, h₉⟩ := h
  unfold relayIn
  dsimp only
  split
  · exact ⟨h₁, h₂, h₃, h₄, h₅, h₆, h₇, h₈, h₉⟩
  · split
    · exact ⟨h₁, h₂, h₃, h₄, h₅, h₆, h₇, h₈, h₉⟩
    · split
      · exact ⟨h₁, h₂, h₃, h₄, h₅, h₆, h₇, h₈, countUp_le _ _ _⟩
      · rename_i hroom
        refine ⟨h₁, ?_, h₃, h₄, h₅, h₆, h₇, h₈, h₉⟩
        have : s.link.buffered < returnCapacity := not_le.1 hroom
        simp only [LinkPort.buffered, State.setLink_link, List.countP_append, List.countP_singleton,
          BufferItem.isChar, if_true] at this ⊢
        omega

theorem changes_returnInCharacter (c : LinkChar) : Changes idle released s (returnInCharacter c s) := by
  unfold returnInCharacter
  split
  · exact .refl s
  · exact changes_link s rfl id
  · refine changes_link s ?_ (sound_relayIn c)
    unfold relayIn
    dsimp only
    split_ifs <;> rfl

/-- An end mark takes no place in the buffer (R168). -/
theorem countP_markEnd (l : List BufferItem) :
    (markEnd l).countP BufferItem.isChar = l.countP BufferItem.isChar := by
  unfold markEnd
  split <;> simp [BufferItem.isChar]

theorem changes_returnInIdle : Changes idle released s (returnInIdle s) := by
  unfold returnInIdle
  split
  · exact .refl s
  · exact changes_link s rfl id
  · split
    · exact .refl s
    · refine changes_link s rfl fun ⟨h₁, h₂, h₃, h₄, h₅, h₆, h₇, h₈, h₉⟩ =>
        ⟨h₁, ?_, h₃, h₄, h₅, h₆, h₇, h₈, h₉⟩
      simpa [LinkPort.buffered, countP_markEnd] using h₂

theorem changes_gapEnd : Changes idle released s (gapEnd s) := by
  unfold gapEnd
  split
  · rename_i hgap
    refine changes_link s rfl fun ⟨h₁, h₂, h₃, h₄, h₅, h₆, h₇, h₈, h₉⟩ =>
      ⟨h₁, h₂, h₃, ?_, h₅, h₆, h₇, h₈, h₉⟩
    rw [hgap.2] at h₄
    show s.link.sending = true ↔ (if _ then RelayState.buffered else .direct) = .ownReply
    rw [h₄]
    split <;> simp
  · exact .refl s

/-- A buffer that lost its head holds no more characters, and a relay that leaves BUFFERED for GAP or DIRECT
sends no own reply. -/
theorem LinkPort.Sound.drain {k : LinkPort} (h : k.Sound) (hrelay : k.relay = .buffered)
    {l : List BufferItem} (hl : l.countP BufferItem.isChar ≤ k.buffered) {x : RelayState}
    (hx : x ≠ .ownReply) (c : List LinkChar) :
    LinkPort.Sound { k with returnBuffer := l, relay := x, returnOut := c } := by
  obtain ⟨h₁, h₂, h₃, h₄, h₅, h₆, h₇, h₈, h₉⟩ := h
  refine ⟨h₁, le_trans hl h₂, h₃, ?_, h₅, h₆, h₇, h₈, h₉⟩
  rw [hrelay] at h₄
  simpa [hx] using h₄

theorem countP_drop_le {k : LinkPort} {l : List BufferItem} (h : k.returnBuffer = l) (n : Nat) :
    (l.drop n).countP BufferItem.isChar ≤ k.buffered := by
  rw [LinkPort.buffered, h]
  exact (List.drop_sublist n l).countP_le

theorem changes_bufferedCharacterSent : Changes idle released s (bufferedCharacterSent s) := by
  unfold bufferedCharacterSent
  split
  · rename_i hb
    split
    · rename_i c rest hbuf
      exact changes_link s rfl fun h => LinkPort.Sound.drain h hb.2
        (countP_drop_le hbuf 2) (by simp) [c]
    · rename_i c hbuf
      exact changes_link s rfl fun h => LinkPort.Sound.drain h hb.2 (by simp) (by simp) [c]
    · rename_i c d rest hbuf
      refine changes_link s rfl fun h => ?_
      have := LinkPort.Sound.drain h hb.2 (l := .char d :: rest) (x := s.link.relay)
        (countP_drop_le hbuf 1) (by simp [hb.2]) [c]
      exact this
    · rename_i rest hbuf
      exact changes_link s rfl fun h => LinkPort.Sound.drain (x := .gap) h hb.2
        (countP_drop_le hbuf 1) (by simp)
        s.link.returnOut
    · exact changes_link s rfl fun h => LinkPort.Sound.drain (x := .direct) (l := s.link.returnBuffer)
        h hb.2 (le_refl _) (by simp) s.link.returnOut
  · exact .refl s

theorem changes_ownReplyStart : Changes idle released s (ownReplyStart s) := by
  unfold ownReplyStart
  split
  · rename_i hstart
    have hreply : s.link.replies ≠ [] := by
      have := hstart.2
      simp only [LinkPort.mayStart, Bool.and_eq_true, decide_eq_true_eq] at this
      exact this.1.1.1
    exact changes_link s rfl fun ⟨h₁, h₂, h₃, _, _, h₆, h₇, h₈, h₉⟩ =>
      ⟨h₁, h₂, h₃, by simp, fun _ => hreply, h₆, h₇, h₈, h₉⟩
  · exact .refl s

/-- An own reply's end, but for the reset it may bring (R167, R168). -/
theorem changes_replySent {r : Reply} {rest : List Reply} (hr : s.link.replies = r :: rest)
    {c : List LinkChar} : Changes idle released s (s.setLink
      { s.link with replies := rest, sending := false, relay := .gap, returnOut := c }) := by
  refine changes_link s rfl fun ⟨h₁, h₂, h₃, _, _, h₆, h₇, h₈, h₉⟩ =>
    ⟨?_, h₂, h₃, by simp, by simp, h₆, h₇, h₈, h₉⟩
  rw [hr] at h₁
  exact le_trans (Nat.le_succ _) h₁

end

end Sys2Proof.Machine
end

section
/-! Every command as a sequence of changes: the events of the Rewrite Engine, the requests, the Lane Update and
the resets. -/

namespace Sys2Proof.Machine

/-! ### Table Memory's events -/

/-- A filter by key keeps the entries of the keys it admits. -/
theorem sparseGet_filter {α : Type} (q : Nat → Bool) (k : Nat) (m : Sparse α) :
    sparseGet k (m.filter (fun e => q e.1)) = if q k then sparseGet k m else none := by
  induction m with
  | nil => simp [sparseGet]
  | cons e rest ih =>
    obtain ⟨j, x⟩ := e
    by_cases hq : q j = true
    · rw [List.filter_cons_of_pos (by exact hq)]
      by_cases hj : j = k
      · subst hj; simp [sparseGet, hq]
      · simp [sparseGet, hj, ih]
    · rw [List.filter_cons_of_neg (by exact hq), ih]
      by_cases hj : j = k
      · subst hj; simp [hq]
      · simp [sparseGet, hj]

/-- The canonical form, of Table Memory alone. -/
def TableMemory.Canonical (t : TableMemory) : Prop :=
  t.wf = true ∧ ∀ r, t.rewrite = some r → r.segment < 256

theorem memorySound_iff (s : State) : MemorySound s ↔ s.memory.Canonical := Iff.rfl

theorem TableMemory.canonical_iff {t : TableMemory} : t.Canonical ↔
    imagesWf t.images = true ∧ recordsWf t.records = true ∧ keysRise 63 0 t.staging.slots = true ∧
      ∀ r, t.rewrite = some r → r.segment < 256 := by
  simp only [TableMemory.Canonical, TableMemory.wf, Bool.and_eq_true, and_assoc]

theorem TableMemory.Canonical.image_rise {t : TableMemory} (h : t.Canonical) (k : Nat) :
    keysRise 63 0 (t.image k).slots = true := imagesWf_slots (canonical_iff.1 h).1 k

theorem SegmentImage.keeping_rise {x : SegmentImage} (draw : Nat) (h : keysRise 63 0 x.slots = true) :
    keysRise 63 0 (x.keeping draw).slots = true := keysRise_filter _ h

theorem SegmentImage.keeping_marker {x : SegmentImage} {draw : Nat} (h : (x.keeping draw).marker = true) :
    imageComplete (x.keeping draw).header (x.keeping draw).slots = true :=
  ((Bool.and_eq_true _ _).mp h).2

theorem SegmentImage.written_rise {x : SegmentImage} {g : Staging} (n : Nat)
    (hx : keysRise 63 0 x.slots = true) (hg : keysRise 63 0 g.slots = true) :
    keysRise 63 0 (x.written n g).slots = true := by
  unfold SegmentImage.written
  split
  · exact hx
  · exact keysRise_filter _ hg

theorem SegmentImage.written_marker {x : SegmentImage} {g : Staging} {n : Nat}
    (hx : x.marker = true → imageComplete x.header x.slots = true) (h : (x.written n g).marker = true) :
    imageComplete (x.written n g).header (x.written n g).slots = true := by
  unfold SegmentImage.written at h ⊢
  cases hg : g.header with
  | none => simp only [hg] at h ⊢; exact hx h
  | some header => simp only [hg, Bool.and_eq_true] at h ⊢; exact h.2

/-- What a VERIFIED programming writes (R70). -/
theorem closing_programmed {s : State} {r : Rewrite} {record : SegmentRecord} {image : SegmentImage}
    (he : s.memory.engine = .programming) (hr : s.memory.rewrite = some r)
    (h : programmed s.memory.staging = some (record, image)) : Closing s record image := by
  simp only [programmed, Option.bind_eq_bind, Option.bind_eq_some_iff] at h
  obtain ⟨header, hheader, first, -, last, -, h⟩ := h
  cases h
  refine ⟨fun hm => keysRise_filter _ (TableMemory.canonical_iff.1 hm).2.2.1, fun hm _ => ?_,
    .inr (by simp [hheader, SegmentRecord.presentTable])⟩
  have hfilled := hm.2 r hr (.inr (.inl he))
  simp only [Staging.filled, imageComplete, hheader, List.all_eq_true, List.mem_range] at hfilled ⊢
  intro k hk
  rw [sparseGet_filter (fun j => decide (j < header.count))]
  simpa [hk] using hfilled k hk

section
variable {idle released : Prop} (s : State)

theorem changes_close (outcome : RewriteOutcome) {record : SegmentRecord} {image : SegmentImage}
    {r : Rewrite} (he : s.memory.engine ≠ .idle) (hr : s.memory.rewrite = some r)
    (hc : Closing s record image) : Changes idle released s (endRewrite outcome record image r s) :=
  (MemoryAct.close s outcome record image r he hr hc).changes

theorem changes_suspendAcknowledge : Changes idle released s (suspendAcknowledge s) := by
  unfold suspendAcknowledge
  split
  · rename_i h
    exact (MemoryAct.acknowledge s h.2).changes
  · exact .refl s

theorem changes_eraseComplete : Changes idle released s (eraseComplete s) := by
  unfold eraseComplete
  split
  · rename_i r he hr
    split
    · exact changes_close s _ (by simp [he]) hr
        ⟨fun _ => rfl, fun _ h => by simp [SegmentImage.erased] at h, .inl rfl⟩
    · rename_i hk
      exact (MemoryAct.program s r he hr (by simpa using hk)).changes.trans
        (changes_port (portStep_raiseSuspend _))
  · exact .refl s

theorem changes_programComplete (verified : Bool) :
    Changes idle released s (programComplete verified s) := by
  unfold programComplete
  split
  · rename_i r he hr
    have hne : s.memory.engine ≠ .idle := by simp [he]
    split
    · rename_i hprog
      exact changes_close s _ hne hr (closing_programmed he hr hprog)
    · refine (Run.changes (Act.draw s).run).trans (changes_close s.afterDraw _ hne hr ⟨?_, ?_, .inl rfl⟩)
      · exact fun hm => SegmentImage.keeping_rise _
          (SegmentImage.written_rise _ (TableMemory.Canonical.image_rise hm _)
            (TableMemory.canonical_iff.1 hm).2.2.1)
      · exact fun _ h => SegmentImage.keeping_marker h
  · exact .refl s

theorem changes_abortComplete : Changes idle released s (abortComplete s) := by
  unfold abortComplete
  split
  · rename_i r he hr
    exact changes_close s _ (by simp [he]) hr
      ⟨fun hm => TableMemory.Canonical.image_rise hm _, fun hm h => hm.1 _ h, .inl rfl⟩
  · exact .refl s

theorem run_countStalls {o : Prop} : Run o s (countStalls s) := by
  unfold countStalls
  split
  · exact run_foldl (fun _ i => run_port (portStep_countStall _ i)) _ _
  · exact .refl s

theorem changes_doAbortRewrite : Changes idle released s (doAbortRewrite s).state := by
  have hstop : s.memory.engine ≠ .idle → Changes idle released s
      (((stopPhase s).setEngine .aborting).setSuspendRequest false) := fun he =>
    (MemoryAct.abort s he).changes.trans (changes_port (portStep_setSuspendRequest _ false))
  unfold doAbortRewrite
  dsimp only
  split
  · exact .refl s
  · exact .refl s
  · exact hstop (by simp [*])
  · exact hstop (by simp [*])
  all_goals exact (hstop (by simp [*])).trans (run_countStalls _).changes

/-! ### Requests to Table Memory -/

theorem putKnots_rise (knots : List KnotField) (first : Nat) {slots : Sparse Knot}
    (hroom : first + knots.length ≤ 63) (h : keysRise 63 0 slots = true) :
    keysRise 63 0 (putKnots first knots slots) = true := by
  induction knots generalizing first slots with
  | nil => exact h
  | cons k rest ih =>
    simp only [List.length_cons] at hroom
    exact ih (first + 1) (by omega) (keysRise_put (Nat.zero_le _) (by omega) _ h)

variable (hidle : s.memory.engine = .idle → idle)
include hidle

theorem changes_stage {g : Staging} (ho : ¬s.memory.owned = true)
    (hg : keysRise 63 0 s.memory.staging.slots = true → keysRise 63 0 g.slots = true) :
    Changes idle released s { s with memory := { s.memory with staging := g } } := by
  have he : s.memory.engine = .idle := by simpa [TableMemory.owned] using ho
  exact (MemoryAct.stage s g (hidle he) he hg).changes

theorem changes_doStageHeader (table sequence count final : Byte) :
    Changes idle released s (doStageHeader table sequence count final s).state := by
  unfold doStageHeader
  split
  · exact .refl s
  · split
    · exact .refl s
    · exact changes_stage s hidle ‹_› id

theorem changes_doStageKnots (first : Byte) (knots : List KnotField) :
    Changes idle released s (doStageKnots first knots s).state := by
  unfold doStageKnots
  split
  · exact .refl s
  · split
    · exact .refl s
    · rename_i hroom
      exact changes_stage s hidle ‹_› (putKnots_rise knots _ (by omega))

theorem changes_doStageClear : Changes idle released s (doStageClear s).state := by
  unfold doStageClear
  split
  · exact .refl s
  · exact changes_stage s hidle ‹_› fun _ => rfl

omit hidle in
/-- What an accepted COMMIT has checked (R67). -/
theorem commit_checks {segment : Nat} {erase : Bool} (h : commitRefusal segment (some erase) s = none) :
    segment < 256 ∧ s.memory.engine = .idle ∧
      s.boundOutsideOff (s.memory.record segment).presentTable = false ∧
      s.boundOutsideOff (s.memory.staging.header.map Header.table) = false ∧
      (erase = false → s.memory.staging.filled = true) := by
  simp only [commitRefusal] at h
  split_ifs at h with h₁ h₂ h₃ h₄ h₅
  simp only [Bool.or_eq_true, not_or, Bool.not_eq_true] at h₃
  refine ⟨not_le.1 h₁, not_not.1 h₂, h₃.1, h₃.2, fun he => ?_⟩
  simpa [he] using h₄

theorem changes_doCommit (segment : BitVec 16) (eraseOnly : Byte) (hs : s.memory.startUp = .complete) :
    Changes idle released s (doCommit segment eraseOnly s).state := by
  unfold doCommit
  cases hflag : readFlag eraseOnly with
  | none => exact .refl s
  | some erase =>
    split
    · exact .refl s
    · rename_i hc
      exact ((MemoryAct.accept s _ erase (hidle (commit_checks s hc).2.1) hc hs).changes.trans
        (run_countStalls _).changes).trans (changes_port (portStep_raiseSuspend _))

end

/-! ### The frame of an event -/

theorem frame_stopPhase (s : State) : Frame s (stopPhase s) := by
  rcases stopPhase_cases s with h | ⟨r, -, -, h⟩ <;> rw [h]
  · exact .refl s
  · exact (Frame.setMemory s _).trans (Act.draw (o := True) _).frame

theorem frame_closeRewrite (outcome : RewriteOutcome) (record : SegmentRecord) (image : SegmentImage)
    (r : Rewrite) (s : State) : Frame s (closeRewrite outcome record image r s) :=
  ⟨fun _ => .refl _, fun _ => .inl rfl, ⟨_, rfl⟩, id, id⟩

theorem MemoryAct.frame {idle : Prop} {s t : State} (h : MemoryAct idle s t) : Frame s t := by
  cases h with
  | stage => exact .setMemory s _
  | accept => exact .setMemory s _
  | abort => exact (frame_stopPhase s).trans (.setMemory _ _)
  | acknowledge =>
    exact ((((frame_stopPhase s).trans (Frame.setMemory _ _)).trans
      (portStep_setSuspendRequest _ _).toPortFrame.frame).trans
      (portStep_resumeIfIdle _).toPortFrame.frame).trans (portFrame_grantRead _).frame
  | program => exact .setMemory s _
  | close outcome record image r =>
    exact (frame_closeRewrite outcome record image r s).trans (portFrame_grantRead _).frame

theorem Frame.replies {s t : State} (h : Frame s t) : t.link.replies = s.link.replies := by
  obtain ⟨x, hx⟩ := h.link
  rw [hx]

end Sys2Proof.Machine
end

section
/-! The requests and the commands as sequences of changes, with what each does to the capture records and to
the Reply Queue. -/

namespace Sys2Proof.Machine

/-! ### What a request's owner does -/

theorem onAxisIndex_cases (axis : Byte) (s : State) (f : AxisIdx → Result) :
    onAxisIndex axis s f = answerRefused .badAxis s ∨ ∃ i, onAxisIndex axis s f = f i := by
  unfold onAxisIndex
  split
  · exact .inr ⟨_, rfl⟩
  · exact .inl rfl

section
variable {o : Prop} {s : State}

theorem run_doAxisMotionConfig (axis : Byte) (f : MotionFields) :
    Run o s (doAxisMotionConfig axis f s).state := by
  refine run_onAxisIndex axis fun i => ?_
  split
  · exact .refl s
  · rename_i hoff
    split
    · exact .refl s
    · rename_i g hg
      exact run_answerClamped (run_onAxis (Axis.calm_configure hg (not_not.1 hoff)))

theorem run_doHome (axis : Byte) : Run o s (doHome axis s).state := by
  refine run_onAxisIndex axis fun i => ?_
  split
  · exact .refl s
  · rename_i hready
    split
    · exact .refl s
    · exact run_answerDone (run_onAxis (Axis.calm_beginHoming _ (not_not.1 hready)))

theorem run_doFaultAck (axis : Byte) : Run o s (doFaultAck axis s).state := by
  refine run_onAxisIndex axis fun i => ?_
  split
  · rename_i h
    exact run_answerDone (run_onAxis (Axis.calm_faultAck h))
  all_goals exact .refl s

theorem run_doUnitSettings (policy halts holdWindow haltWindow : Byte) :
    Run o s (doUnitSettings policy halts holdWindow haltWindow s).state := by
  unfold doUnitSettings
  split
  · rename_i policy showHaltsOnHold _ _
    exact run_answerClamped ((run_setClock
      { s.clock with
        settings :=
          { policy, showHaltsOnHold, holdWindow := saturateWindow holdWindow
            haltWindow := saturateWindow haltWindow } } rfl rfl rfl).trans
      (run_port (portStep_raiseSuspend _)))
  · exact .refl s

theorem cuesOrdered_filter (p : CueRecord → Bool) {l : List CueRecord} (h : CuesOrdered l) :
    CuesOrdered (l.filter p) :=
  ⟨le_trans (List.length_filter_le _ _) h.1, h.2.filter _⟩

theorem run_doCueCancel (tag : Byte) : Run o s (doCueCancel tag s).state :=
  (Act.cues s { s.cues with records := s.cues.records.filter (fun c => decide (c.tag ≠ tag)) }
    (cuesOrdered_filter _) (fun h => by simp [h])).run

end

/-- An AXIS_QUERY carries and releases a capture record, or is a run of acts (R139, R178). -/
theorem doAxisQuery_cases (axis page part : Byte) (s : State) :
    Run True s (doAxisQuery axis page part s).state ∨
      ∃ i, doAxisQuery axis page part s =
        answerData (axisCapture (s.axis i).encoder.capture) (s.onAxis i Axis.releaseCapture) := by
  rcases onAxisIndex_cases axis s _ with h | ⟨i, h⟩ <;> unfold doAxisQuery <;> rw [h]
  · exact .inl (.refl s)
  · dsimp only
    split
    case h_1 => exact .inl (run_answerData (run_onAxis (Axis.calm_releaseLate _)))
    case h_6 => exact .inr ⟨i, rfl⟩
    all_goals exact .inl (.refl s)

/-- Whether a request releases a capture record, or resets the unit at once. -/
inductive Releases (o : Origin) (s : State) : Request → Result → Prop
  | capture (axis page part : Byte) (i : AxisIdx) : Releases o s (.axisQuery axis page part)
      (answerData (axisCapture (s.axis i).encoder.capture) (s.onAxis i Axis.releaseCapture))
  | reset (straps : BitVec 5) (ho : o = .broadcast) :
      Releases o s (.unitReset straps) (answerDone (unitReset straps s))

theorem statusQuery_of_kind {r : Request} (h : r.kind = statusQueryKind) :
    ∃ page part, r = .statusQuery page part := by
  cases r with
  | statusQuery page part => exact ⟨page, part, rfl⟩
  | cueable r => cases r <;> simp [Request.kind, CueRequest.kind, statusQueryKind] at h
  | _ => simp [Request.kind, statusQueryKind] at h

/-- The owner of a request changes the unit by changes that release no capture and place no reply, but for
the query of the capture record and the broadcast UNIT_RESET (R165). -/
theorem perform_cases {idle : Prop} (o : Origin) (r : Request) (s : State)
    (hidle : s.memory.engine = .idle → idle) (hk : s.takesKind r.kind = true) :
    Changes idle False s (perform o r s).state ∧
        (perform o r s).state.link.replies = s.link.replies ∨
      Releases o s r (perform o r s) := by
  have hs : (∃ page part, r = .statusQuery page part) ∨ s.memory.startUp = .complete := by
    by_cases h : r.kind = statusQueryKind
    · exact .inl (statusQuery_of_kind h)
    · exact .inr (by simpa [State.takesKind, h] using hk)
  have hstatus : ∀ page part, (perform o (.statusQuery page part) s).state = s := fun page part => by
    simp only [perform, doStatusQuery]; split <;> rfl
  rcases hs with ⟨page, part, rfl⟩ | hc
  · exact .inl (by rw [hstatus]; exact ⟨.refl s, rfl⟩)
  have hrun : ∀ {t}, Run True s t →
      Changes idle False s t ∧ t.link.replies = s.link.replies :=
    fun h => ⟨Run.changes (h.imp fun _ => .inl hc), (Run.frame h).replies⟩
  cases r with
  | cueable r =>
    exact .inl (hrun (run_performCueable trivial r s))
  | run =>
    exact .inl ⟨(Change.start s hc).changes, rfl⟩
  | sync => exact .inl ⟨.refl s, rfl⟩
  | unitSettings policy halts holdWindow haltWindow =>
    exact .inl (hrun (run_doUnitSettings _ _ _ _))
  | unitReset straps =>
    cases o with
    | addressed => exact .inl ⟨changes_link s rfl id, rfl⟩
    | broadcast => exact .inr (.reset straps rfl)
  | axisMotionConfig axis f =>
    exact .inl (hrun (run_doAxisMotionConfig _ _))
  | axisSenseConfig axis f =>
    exact .inl (hrun (run_doAxisSenseConfig _ _ _))
  | home axis =>
    exact .inl (hrun (run_doHome _))
  | faultAck axis =>
    exact .inl (hrun (run_doFaultAck _))
  | cue time tag kind payload =>
    left
    show Changes idle False s (doCue time tag kind payload s).state ∧ _
    simp only [perform, doCue]
    split
    · exact ⟨.refl s, rfl⟩
    · split
      · exact ⟨.refl s, rfl⟩
      · split
        · exact ⟨.refl s, rfl⟩
        · exact ⟨(Change.insert s _ hc (not_le.1 ‹_›)).changes, rfl⟩
  | cueCancel tag =>
    exact .inl (hrun (run_doCueCancel _))
  | stageHeader table sequence count final =>
    refine .inl ⟨changes_doStageHeader s hidle _ _ _ _, ?_⟩
    simp only [perform, doStageHeader]
    split <;> [skip; split] <;> rfl
  | stageKnots first knots =>
    refine .inl ⟨changes_doStageKnots s hidle _ _, ?_⟩
    simp only [perform, doStageKnots]
    split_ifs <;> rfl
  | stageClear =>
    refine .inl ⟨changes_doStageClear s hidle, ?_⟩
    simp only [perform, doStageClear]
    split_ifs <;> rfl
  | commit segment eraseOnly =>
    refine .inl ⟨changes_doCommit s hidle _ _ hc, ?_⟩
    simp only [perform, doCommit]
    split
    · rfl
    · exact (portStep_raiseSuspend _).toPortFrame.frame.replies.trans
        (Run.frame (run_countStalls (o := True) _)).replies
  | abortRewrite =>
    refine .inl ⟨changes_doAbortRewrite s, ?_⟩
    have hstop : (((stopPhase s).setEngine .aborting).setSuspendRequest false).link.replies =
        s.link.replies := (frame_stopPhase s).replies
    simp only [perform, doAbortRewrite]
    split
    · rfl
    · rfl
    · exact hstop
    · exact hstop
    all_goals exact (Run.frame (run_countStalls (o := True) _)).replies.trans hstop
  | statusQuery page part => exact .inl (by rw [hstatus]; exact ⟨.refl s, rfl⟩)
  | axisQuery axis page part =>
    rcases doAxisQuery_cases axis page part s with h | ⟨i, h⟩
    · exact .inl (hrun h)
    · right
      show Releases o s _ (doAxisQuery axis page part s)
      rw [h]
      exact .capture axis page part i
  | tableQuery table part =>
    have hstate : (perform o (.tableQuery table part) s).state = s := by
      simp only [perform, doTableQuery]; split <;> rfl
    exact .inl (by rw [hstate]; exact ⟨.refl s, rfl⟩)
  | segmentQuery segment =>
    have hstate : (perform o (.segmentQuery segment) s).state = s := by
      simp only [perform, doSegmentQuery]; split <;> rfl
    exact .inl (by rw [hstate]; exact ⟨.refl s, rfl⟩)
  | clear f => exact .inl ⟨(Change.clear s f).changes, rfl⟩

/-! ### The arrival of a request -/

/-- What the tests of R165 leave: nothing, an overrun, a refusal that finds room for its reply, or the request
carried out. -/
theorem takeRequest_cases (o : Origin) (kind : Byte) (request : Option Request) (s : State) :
    takeRequest o kind request s = s ∨
      takeRequest o kind request s =
        linkError { s.link with requestOverruns := countUp 65535 1 s.link.requestOverruns } s ∨
      (∃ code, s.link.replies.length < replyCapacity ∧
        takeRequest o kind request s = placeReply kind (answerRefused code s)) ∨
      ∃ r, request = some r ∧ s.takesKind kind = true ∧
        ((o = .addressed ∧ s.link.replies.length < replyCapacity) ∨
          (o = .broadcast ∧ isQueryKind kind = false)) ∧
        takeRequest o kind request s = answered o kind (perform o r s) := by
  have hjudge : (∃ code, judge o kind request s = answerRefused code s) ∨
      ∃ r, request = some r ∧ s.takesKind kind = true ∧ judge o kind request s = perform o r s := by
    unfold judge
    split
    · exact .inl ⟨_, rfl⟩
    · split
      · exact .inl ⟨_, rfl⟩
      · rename_i hk
        split
        · exact .inl ⟨_, rfl⟩
        · exact .inr ⟨_, rfl, by simpa using hk, rfl⟩
  cases o with
  | addressed =>
    simp only [takeRequest, takeAddressed, answered]
    split
    · exact .inl rfl
    · split
      · exact .inr (.inl rfl)
      · rename_i hroom
        rw [not_le] at hroom
        rcases hjudge with ⟨code, h⟩ | ⟨r, hr, hk, h⟩ <;> rw [h]
        · exact .inr (.inr (.inl ⟨code, hroom, rfl⟩))
        · exact .inr (.inr (.inr ⟨r, hr, hk, .inl ⟨trivial, hroom⟩, rfl⟩))
  | broadcast =>
    simp only [takeRequest, takeBroadcast, answered]
    split
    · exact .inl rfl
    · rename_i hq
      rcases hjudge with ⟨code, h⟩ | ⟨r, hr, hk, h⟩ <;> rw [h]
      · exact .inl rfl
      · exact .inr (.inr (.inr ⟨r, hr, hk, .inr ⟨trivial, by simpa using (not_or.1 hq).2⟩, rfl⟩))

/-- The record of a released capture (R139). -/
def IndexCapture.released (x : IndexCapture) : IndexCapture := { x with pending := false, missed := 0 }

/-- The empty capture record (R142). -/
def IndexCapture.empty : IndexCapture :=
  { current := none, previous := none, pending := false, missed := 0 }

/-- What a command does, with the capture records: it releases none, or its reply carries one, or it resets
the unit. -/
inductive Answers (idle : Prop) (s t : State) : Prop
  | steady (h : Changes idle False s t)
  | carried (h : Changes idle True s t) (i : AxisIdx)
      (hi : (t.axis i).encoder.capture = (s.axis i).encoder.capture.released)
      (hj : ∀ j, j ≠ i → (t.axis j).encoder.capture = (s.axis j).encoder.capture)
      (hr : ∃ r : Reply, t.link.replies = s.link.replies ++ [r] ∧ r.kind = 0x31 ∧ r.outcome = .done ∧
        r.data = axisCapture (s.axis i).encoder.capture)
  | reset (h : Changes idle True s t) (hc : ∀ i, (t.axis i).encoder.capture = .empty)
      (hk : t.clock = SkyClock.reset) (hr : t.link.replies = [])

theorem Answers.changes {idle : Prop} {s t : State} (h : Answers idle s t) : Changes idle True s t := by
  cases h with
  | steady h => exact h.mayRelease
  | carried h => exact h
  | reset h => exact h

/-- A reply joins the queue (R167). -/
theorem changes_placeReply {idle released : Prop} {kind : Byte} {r : Result}
    (hroom : r.state.link.replies.length < replyCapacity) :
    Changes idle released r.state (placeReply kind r) :=
  changes_link r.state rfl fun h => LinkPort.Sound.reply h hroom _

theorem unitReset_axis (straps : BitVec 5) (s : State) (i : AxisIdx) :
    ((unitReset straps s).axis i) = ((stopPhase s).axis i).unitReset := by
  simp [unitReset, State.axis]

theorem answers_unitReset {idle : Prop} (straps : BitVec 5) (s : State) :
    Answers idle s (unitReset straps s) :=
  .reset (Change.unitReset s straps trivial).changes (fun i => by rw [unitReset_axis]; rfl) rfl rfl

/-- A good frame of a kind arrives (R165). -/
theorem answers_takeRequest {idle : Prop} (o : Origin) (kind : Byte) (request : Option Request) (s : State)
    (hidle : s.memory.engine = .idle → idle) (hkind : ∀ r, request = some r → r.kind = kind) :
    Answers idle s (takeRequest o kind request s) := by
  rcases takeRequest_cases o kind request s with h | h | ⟨code, hroom, h⟩ | ⟨r, hr, hk, hway, h⟩ <;>
    rw [h]
  · exact .steady (.refl s)
  · exact .steady (changes_link s rfl fun h => LinkPort.Sound.overrun h _)
  · exact .steady (changes_placeReply (r := answerRefused code s) hroom)
  · have hrk := hkind r hr
    rcases perform_cases o r s hidle (by rw [hrk]; exact hk) with ⟨hc, hreplies⟩ | hrel
    · rcases hway with ⟨rfl, hroom⟩ | ⟨rfl, -⟩
      · exact .steady (hc.trans (changes_placeReply (by rw [hreplies]; exact hroom)))
      · exact .steady hc
    · generalize perform o r s = x at hrel
      cases hrel with
      | reset straps ho =>
        subst ho
        exact answers_unitReset straps s
      | capture axis page part i =>
        rcases hway with ⟨rfl, hroom⟩ | ⟨-, hq⟩
        · refine .carried (((Change.carry s i trivial).changes).trans
            (changes_placeReply (r := answerData _ (s.onAxis i Axis.releaseCapture)) hroom)) i ?_ ?_ ?_
          · show (((s.onAxis i Axis.releaseCapture).axis i).encoder.capture) = _
            rw [State.axis_onAxis_same]; rfl
          · intro j hj
            show (((s.onAxis i Axis.releaseCapture).axis j).encoder.capture) = _
            rw [State.axis_onAxis, if_neg (Ne.symm hj)]
          · exact ⟨_, rfl, hrk.symm, rfl, rfl⟩
        · rw [← hrk] at hq
          simp [isQueryKind, Request.kind] at hq

/-! ### A request from its bytes -/

theorem readEnd_some {α : Type} {x y : α} {p : List Byte} (h : readEnd x p = some y) : x = y := by
  cases p with
  | nil => exact Option.some.inj h
  | cons _ _ => cases h

theorem decodeCueRequest_kind {kind : Byte} {payload : List Byte} {r : CueRequest}
    (h : decodeCueRequest kind payload = some r) : r.kind = kind := by
  unfold decodeCueRequest at h
  split at h
  case h_1 hk | h_2 hk =>
    rw [← readEnd_some h]
    exact BitVec.eq_of_toNat_eq (by rw [hk]; rfl)
  case h_13 => cases h
  all_goals
    obtain ⟨x, -, rfl⟩ := Option.map_eq_some_iff.1 h
    exact BitVec.eq_of_toNat_eq (by simp only [*]; rfl)

/-- A request read from a frame has the frame's kind (R165, test 4). -/
theorem decodeRequest_kind {straps : BitVec 5} {kind : Byte} {payload : List Byte} {r : Request}
    (h : decodeRequest straps kind payload = some r) : r.kind = kind := by
  unfold decodeRequest at h
  split at h
  case h_1 hk | h_2 hk | h_4 hk | h_13 hk | h_15 hk =>
    rw [← readEnd_some h]
    exact BitVec.eq_of_toNat_eq (by rw [hk]; rfl)
  case h_9 hk =>
    simp only [decodeCue, Option.bind_eq_bind, Option.bind_eq_some_iff] at h
    obtain ⟨_, _, _, _, _, _, h⟩ := h
    cases h
    exact BitVec.eq_of_toNat_eq (by rw [hk]; rfl)
  case h_21 =>
    obtain ⟨x, hx, rfl⟩ := Option.map_eq_some_iff.1 h
    exact decodeCueRequest_kind hx
  all_goals
    obtain ⟨x, -, rfl⟩ := Option.map_eq_some_iff.1 h
    exact BitVec.eq_of_toNat_eq (by simp only [*]; rfl)

end Sys2Proof.Machine
end

section
/-! Every command of the block answers by changes (`answers_exec`), and every step is a sequence of changes
(`changes_step`), so that an invariant which each change keeps is kept by every step (`keptByStep`). -/

namespace Sys2Proof.Machine

section
variable {idle : Prop} {s t : State}

theorem Answers.of_run (h : Run s.Open s t) : Answers idle s t := .steady (Run.changes h)

/-- Changes of the Link Port alone before what a command does. -/
theorem Answers.after {s₁ : State} (h : Changes idle False s s₁) (hax : s₁.axes = s.axes)
    (hr : s₁.link.replies = s.link.replies) (h' : Answers idle s₁ t) : Answers idle s t := by
  have hi : ∀ i, s₁.axis i = s.axis i := State.axis_congr hax
  cases h' with
  | steady h' => exact .steady (h.trans h')
  | carried h' i hc hj hreply =>
    simp only [hi, hr] at hc hj hreply
    exact .carried (h.mayRelease.trans h') i hc hj hreply
  | reset h' hc hk hreply => exact .reset (h.mayRelease.trans h') hc hk hreply

/-- An event of the running unit (log 9). -/
theorem answers_whenOn {f : State → State} (hf : Answers idle s (f s)) (h : whenOn f s = .next t) :
    Answers idle s t := by
  unfold whenOn at h
  cases h
  split
  · exact hf
  · exact .steady (.refl s)

theorem answers_whenOn_run {f : State → State} (hf : Run s.Open s (f s)) (h : whenOn f s = .next t) :
    Answers idle s t := answers_whenOn (.of_run hf) h

/-! ### Resets -/

@[simp] theorem resetBlocks_axis (straps : BitVec 5) (power : Power) (s : State) (i : AxisIdx) :
    (resetBlocks straps power s).axis i = Axis.reset := by
  simp [resetBlocks, State.axis]

theorem answers_resetBlocks (straps : BitVec 5) (power : Power) :
    Answers idle s (resetBlocks straps power s) :=
  .reset (Change.reset s straps power trivial).changes
    (fun i => by rw [resetBlocks_axis]; rfl) rfl rfl

theorem answers_resetLineAsserted : Answers idle s (resetLineAsserted s) := by
  unfold resetLineAsserted
  split
  · exact .steady (.refl s)
  all_goals exact answers_resetBlocks _ _

theorem answers_powerLoss : Answers idle s (powerLoss s) := by
  have hloss : Answers idle s { resetBlocks 0 .off s with link := LinkPort.reset 0 } :=
    .reset ((Change.reset s 0 .off trivial).changes.trans
      (changes_link _ rfl fun _ => LinkPort.sound_reset 0))
      (fun i => congrArg (fun a => a.encoder.capture) (resetBlocks_axis 0 .off s i)) rfl rfl
  unfold powerLoss
  split
  · exact .steady (.refl s)
  all_goals exact hloss

theorem answers_startUpScanCompletion : Answers idle s (startUpScanCompletion s) := by
  unfold startUpScanCompletion
  split
  · rename_i h
    exact .steady (Change.scan s h.2).changes
  · exact .steady (.refl s)

/-! ### The Lane Update and the frames -/

theorem changes_laneUpdate {released : Prop} (s : State) : Changes idle released s (laneUpdate s) := by
  unfold laneUpdate
  split
  · dsimp only
    exact (((runs_runWork _ s).changes.trans (Change.begin _).changes).trans
      (Run.changes (Act.draw _).run)).trans (runs_runWork _ _).changes
  · exact .refl s

theorem answers_frameEnd (straps : BitVec 5) (hidle : s.memory.engine = .idle → idle) :
    Answers idle s (frameEnd straps s) := by
  have h₁ : Changes idle False s (s.setFrame none) := changes_setFrame_none s
  unfold frameEnd
  split
  · dsimp only
    split
    · exact .steady h₁
    · split
      · exact .steady (h₁.trans (changes_framingError _))
      · split
        · exact .steady (h₁.trans (changes_checkError _))
        · refine .after h₁ rfl rfl (answers_takeRequest _ _ _ _ hidle fun r hr => ?_)
          exact decodeRequest_kind hr
  · exact .steady (.refl s)

theorem answers_ownReplyEnd (straps : BitVec 5) : Answers idle s (ownReplyEnd straps s) := by
  unfold ownReplyEnd
  split
  · split
    · exact .steady (.refl s)
    · rename_i r rest hr
      dsimp only
      have h₁ : ∀ released, Changes idle released s (s.setLink
          { s.link with replies := rest, sending := false, relay := .gap, returnOut := r.frame }) :=
        fun _ => changes_replySent s hr
      split
      · exact .reset ((h₁ True).trans (Change.unitReset _ straps trivial).changes)
          (fun i => by rw [unitReset_axis]; rfl) rfl rfl
      · exact .steady (h₁ False)
  · exact .steady (.refl s)

theorem answers_arrive (o : Origin) (r : Request) (hidle : s.memory.engine = .idle → idle) :
    Answers idle s (arrive o r s) :=
  answers_takeRequest o r.kind (some r) s hidle fun _ h => (Option.some.inj h) ▸ rfl

end

/-! ### Every command -/

/-- What every command does (R165 and the events of spec/95). -/
theorem answers_exec {c : Instr} {s t : State} (h : exec c s = .next t) :
    Answers (s.memory.engine = .idle) s t := by
  cases c with
  | powerOnReset straps => cases h; exact answers_resetBlocks straps .on
  | powerLoss => cases h; exact answers_powerLoss
  | startUpScanCompletion => cases h; exact answers_startUpScanCompletion
  | laneUpdate => cases h; exact .steady (changes_laneUpdate s)
  | showInCharacter c => cases h; exact .steady (changes_showInCharacter s c)
  | frameEnd straps => cases h; exact answers_frameEnd straps id
  | stageKnots o first knots =>
    cases h
    refine answers_takeRequest _ _ _ _ id fun r hr => ?_
    split at hr <;> cases hr
    rfl
  | returnInCharacter c => cases h; exact .steady (changes_returnInCharacter s c)
  | returnInIdle => cases h; exact .steady (changes_returnInIdle s)
  | gapEnd => cases h; exact .steady (changes_gapEnd s)
  | bufferedCharacterSent => cases h; exact .steady (changes_bufferedCharacterSent s)
  | ownReplyStart => cases h; exact .steady (changes_ownReplyStart s)
  | ownReplyEnd straps => cases h; exact answers_ownReplyEnd straps
  | holdLineAcceptance level =>
    refine answers_whenOn_run ?_ h
    split
    · exact run_sampleHold level s
    · exact .refl s
  | haltLineAcceptance level =>
    refine answers_whenOn_run ?_ h
    split
    · exact run_sampleHalt level s
    · exact .refl s
  | homeAcceptance axis level => exact answers_whenOn_run (run_acceptInput axis _ level s) h
  | limitAcceptance axis stop level => exact answers_whenOn_run (run_acceptInput axis _ level s) h
  | drvFaultAcceptance axis level => exact answers_whenOn_run (run_acceptInput axis _ level s) h
  | encoderTransition axis encA encB =>
    exact answers_whenOn_run (run_onAxis (Axis.calm_seePair (encA, encB) _)) h
  | indexEvent axis encI => exact answers_whenOn_run (run_seeIndex axis encI s) h
  | knotReadGrant => exact answers_whenOn_run (run_port (portStep_grantRead s)) h
  | knotReadCompletion => exact answers_whenOn_run (run_port (portStep_completeRead s)) h
  | suspendAcknowledge => exact answers_whenOn (.steady (changes_suspendAcknowledge s)) h
  | eraseCompletion => exact answers_whenOn (.steady (changes_eraseComplete s)) h
  | programCompletion verified => exact answers_whenOn (.steady (changes_programComplete s verified)) h
  | abortCompletion => exact answers_whenOn (.steady (changes_abortComplete s)) h
  | stepPulseBegin axis =>
    exact answers_whenOn_run
      (run_onAxis (Axis.calm_output (s.axis axis) Output.pulseBegin_windowSound)) h
  | stepPulseEnd axis =>
    exact answers_whenOn_run
      (run_onAxis (Axis.calm_output (s.axis axis) (Output.pulseEnd_windowSound _))) h
  | filterSample line level => exact answers_whenOn_run (run_sampleLine line level s) h
  | resetLineAsserted => cases h; exact answers_resetLineAsserted
  | _ => cases h; exact answers_arrive _ _ id

/-- What every step does. -/
theorem changes_step {s t : State} (h : step s = .next t) : ∃ idle, Changes idle True s t := by
  unfold step at h
  split at h
  · cases h
    exact ⟨True, Run.changes (run_workStep s)⟩
  · rename_i c rest _
    have hq : Changes (s.memory.engine = .idle) True s { s with pending := rest } :=
      (Change.queue s rest).changes
    exact ⟨_, hq.trans (answers_exec h).changes⟩

/-- An invariant that every change keeps is kept by every step. -/
theorem keptByStep {P : State → Prop}
    (hP : ∀ idle released s t, Change idle released s t → P s → P t) : KeptByStep P := by
  intro s t hs h
  obtain ⟨idle, hc⟩ := changes_step h
  clear h
  induction hc with
  | refl => exact hs
  | tail _ h' ih => exact hP _ _ _ _ h' ih

end Sys2Proof.Machine
end

section
/-! Laws 1 to 7, 11 and 12, the Link Port's bounds and the work in hand: every change keeps them. -/

namespace Sys2Proof.Machine

/-! ### A Lane Update that begins -/

theorem settle_state (k : SkyClock) : k.settle.1.state = k.state := by
  have hstep : k.stepRamp.state = k.state := by unfold SkyClock.stepRamp; split <;> rfl
  have hsky : k.settleSky.1.state = k.state := by
    unfold SkyClock.settleSky
    split
    · rfl
    · split
      · exact hstep
      · rfl
  have hshow : ∀ k : SkyClock, k.settleShow.1.state = k.state := fun k => by
    unfold SkyClock.settleShow
    split
    · rfl
    · split <;> rfl
  exact (hshow _).trans hsky

/-- The lanes settle in the clock, and the Attention Set alone changes besides (R2, R10). -/
theorem settleLanes_cases (s : State) :
    settleLanes s = s.setClock s.clock.settle.1 ∨
      settleLanes s = (s.setClock s.clock.settle.1).raise .skyLimit := by
  unfold settleLanes
  dsimp only
  split <;> simp

theorem beginUpdate_axis (s : State) (i : AxisIdx) : (beginUpdate s).axis i = s.axis i := by
  unfold beginUpdate
  rcases settleLanes_cases s with h | h <;> rw [h] <;> rfl

theorem frame_beginUpdate (s : State) : Frame s (beginUpdate s) := by
  refine ⟨fun i => by rw [beginUpdate_axis]; exact .refl _, fun i => by rw [beginUpdate_axis]; exact .inl rfl,
    ?_, ?_, fun _ => ?_⟩
  all_goals unfold beginUpdate; rcases settleLanes_cases s with h | h <;> rw [h]
  · exact ⟨s.link.attention, rfl⟩
  · exact ⟨_, rfl⟩
  · exact id
  · exact id
  all_goals
    rintro w ⟨⟩
    exact ⟨.inr rfl, ⟨0, rfl⟩, rfl, rfl⟩

theorem beginUpdate_rest (s : State) :
    (beginUpdate s).memory = s.memory ∧ (beginUpdate s).port = s.port ∧
      (beginUpdate s).cues = s.cues ∧ (beginUpdate s).clock.state = s.clock.state := by
  unfold beginUpdate
  rcases settleLanes_cases s with h | h <;> rw [h] <;> exact ⟨rfl, rfl, rfl, settle_state _⟩

/-! ### Laws 1 to 5 -/

theorem stopPhase_axis (s : State) (i : AxisIdx) : (stopPhase s).axis i = s.axis i := by
  rcases stopPhase_cases s with h | ⟨r, -, -, h⟩
  · rw [h]
  · rw [h]; rfl

theorem cleared_axis (f : ClearFields) (s : State) (i : AxisIdx) :
    (cleared f s).axis i =
      { s.axis i with
        encoder :=
          { (s.axis i).encoder with
            glitches := clearCount (inSet f.glitch i) (s.axis i).encoder.glitches } } := by
  simp [cleared, State.axis, clearGlitches]

/-- What a change that releases no capture does to each axis. -/
theorem Change.keeps {idle : Prop} {s t : State} (h : Change idle False s t) (i : AxisIdx) :
    (s.axis i).Keeps (t.axis i) := by
  cases h with
  | run h => exact (Run.frame h).axes i
  | memory h => exact h.frame.axes i
  | begin => rw [beginUpdate_axis]; exact .refl _
  | start => exact .refl _
  | insert => exact .refl _
  | clear f => rw [cleared_axis]; exact (Axis.calm_glitches _ _).toKeeps
  | carry _ h => exact h.elim
  | link h _ => rw [h]; exact .refl _
  | reset _ _ h => exact h.elim
  | unitReset _ h => exact h.elim
  | scan =>
    rw [State.axis_mapAxes]
    exact (Axis.calm_output (s.axis i) (o := { (s.axis i).output with mode := .parked }) id).toKeeps
  | queue => exact .refl _

theorem Changes.keeps {idle : Prop} {s t : State} (h : Changes idle False s t) (i : AxisIdx) :
    (s.axis i).Keeps (t.axis i) := by
  induction h with
  | refl => exact .refl _
  | tail _ h ih => exact ih.trans (h.keeps i)

/-- A change that may empty a capture record does no more to an axis than one that may not, or releases the
record, or resets the axis. -/
theorem Change.axis_cases {idle released : Prop} {s t : State} (h : Change idle released s t)
    (i : AxisIdx) :
    (s.axis i).Keeps (t.axis i) ∨ t.axis i = (s.axis i).releaseCapture ∨ t.axis i = Axis.reset ∨
      t.axis i = (s.axis i).unitReset := by
  cases h with
  | carry j h =>
    rw [State.axis_onAxis]
    split
    · rename_i hj; subst hj; exact .inr (.inl rfl)
    · exact .inl (.refl _)
  | reset straps power h => exact .inr (.inr (.inl (resetBlocks_axis straps power s i)))
  | unitReset straps h =>
    rw [unitReset_axis, stopPhase_axis]
    exact .inr (.inr (.inr rfl))
  | run h => exact .inl (Change.keeps (idle := idle) (.run h) i)
  | memory h => exact .inl (Change.keeps (.memory h) i)
  | begin => exact .inl (Change.keeps (idle := idle) (.begin s) i)
  | start h => exact .inl (Change.keeps (idle := idle) (.start s h) i)
  | insert c h hroom => exact .inl (Change.keeps (idle := idle) (.insert s c h hroom) i)
  | clear f => exact .inl (Change.keeps (idle := idle) (.clear s f) i)
  | link h hs => exact .inl (Change.keeps (idle := idle) (.link h hs) i)
  | scan h => exact .inl (Change.keeps (idle := idle) (.scan s h) i)
  | queue l => exact .inl (Change.keeps (idle := idle) (.queue s l) i)

/-- An invariant of one axis that the changes of an axis keep is kept by every step. -/
theorem keptByStep_everyAxis {P : Axis → Prop} (hk : ∀ a b : Axis, a.Keeps b → P a → P b)
    (hrelease : ∀ a : Axis, P a → P a.releaseCapture) (hreset : P Axis.reset)
    (hunit : ∀ a : Axis, P a → P a.unitReset) : KeptByStep (EveryAxis P) := by
  refine keptByStep fun idle released s t h hs i => ?_
  rcases h.axis_cases i with h | h | h | h
  · exact hk _ _ h (hs i)
  · rw [h]; exact hrelease _ (hs i)
  · rw [h]; exact hreset
  · rw [h]; exact hunit _ (hs i)

theorem motionSound_reset : Axis.reset.motionSound := by
  simp [Axis.motionSound, Axis.reset, MotionConfig.reset, InInt64, minInt64, maxInt64, Output.startUp]

theorem motionSound_unitReset (a : Axis) : a.unitReset.motionSound := by
  simp [Axis.unitReset, Axis.motionSound, Axis.reset, MotionConfig.reset, InInt64, minInt64, maxInt64,
    Output.unitReset]

theorem limits_reset : Axis.reset.clampSound ∧ Axis.reset.wrapSound := by
  simp [Axis.clampSound, Axis.wrapSound, Axis.reset, MotionConfig.reset]

theorem limits_unitReset (a : Axis) : a.unitReset.clampSound ∧ a.unitReset.wrapSound := limits_reset

/-- Settles O54: every change keeps the motion of an axis sound, or resets it. -/
theorem everyStepKeepsTheMotionLaws : Obligations.EveryStepKeepsTheMotionLaws :=
  keptByStep_everyAxis (fun _ _ h => h.motion) (fun _ h => h) motionSound_reset
    fun a _ => motionSound_unitReset a

/-- Settles O55: every change keeps an axis in its limits, or resets it. -/
theorem everyStepKeepsTheSoftLimits : Obligations.EveryStepKeepsTheSoftLimits :=
  keptByStep_everyAxis (fun _ _ h => h.limits) (fun _ h => h) limits_reset
    fun a _ => limits_unitReset a

theorem keptByStep_moves : KeptByStep (EveryAxis Axis.movesSound) :=
  keptByStep_everyAxis (fun _ _ h => h.moves) (fun _ h => h) (Nat.zero_le _) fun _ _ => Nat.zero_le _

/-! ### Law 6: the Cue Queue -/

theorem insertCue_length (c : CueRecord) (l : List CueRecord) : (insertCue c l).length = l.length + 1 := by
  induction l with
  | nil => rfl
  | cons d rest ih => simp only [insertCue]; split <;> simp [ih]

theorem mem_insertCue {c d : CueRecord} {l : List CueRecord} (h : d ∈ insertCue c l) : d = c ∨ d ∈ l := by
  induction l with
  | nil => simpa [insertCue] using h
  | cons e rest ih =>
    simp only [insertCue] at h
    split at h
    · rcases List.mem_cons.1 h with rfl | h
      · exact .inr List.mem_cons_self
      · exact (ih h).imp id (List.mem_cons_of_mem _)
    · exact List.mem_cons.1 h

theorem insertCue_ordered (c : CueRecord) {l : List CueRecord}
    (h : l.Pairwise (fun c d => c.time ≤ d.time)) :
    (insertCue c l).Pairwise (fun c d => c.time ≤ d.time) := by
  induction l with
  | nil => exact List.pairwise_singleton _ _
  | cons d rest ih =>
    obtain ⟨hd, hrest⟩ := List.pairwise_cons.1 h
    simp only [insertCue]
    split
    · rename_i hle
      refine List.pairwise_cons.2 ⟨fun e he => ?_, ih hrest⟩
      rcases mem_insertCue he with rfl | he
      · exact hle
      · exact hd e he
    · rename_i hlt
      refine List.pairwise_cons.2 ⟨fun e he => ?_, h⟩
      rcases List.mem_cons.1 he with rfl | he
      · omega
      · have := hd e he
        omega

theorem keptByStep_cues : KeptByStep CueQueueSound := by
  refine keptByStep fun idle released s t h (hs : CuesOrdered s.cues.records) => ?_
  show CuesOrdered t.cues.records
  cases h with
  | run h => exact (Run.frame h).cues hs
  | memory h => exact h.frame.cues hs
  | begin => exact (frame_beginUpdate s).cues hs
  | insert c _ hroom =>
    exact ⟨by rw [State.setCues_cues, insertCue_length]; exact hroom, insertCue_ordered c hs.2⟩
  | link h => rw [h]; exact hs
  | reset => exact ⟨Nat.zero_le _, List.Pairwise.nil⟩
  | unitReset => exact ⟨Nat.zero_le _, List.Pairwise.nil⟩
  | _ => exact hs

/-! ### Law 7: couplings -/

/-- Law 7, axis by axis. -/
theorem couplingSound_iff (s : State) : CouplingSound s ↔ ∀ i, (s.axis i).law.Below i := Iff.rfl

/-- A change leaves the law of an axis alone, binds one on a lower axis, or removes it. -/
theorem Change.laws {idle released : Prop} {s t : State} (h : Change idle released s t) (i : AxisIdx) :
    (t.axis i).law = (s.axis i).law ∨ (t.axis i).law.Below i := by
  cases h with
  | run h => exact (Run.frame h).laws i
  | memory h => exact h.frame.laws i
  | begin => rw [beginUpdate_axis]; exact .inl rfl
  | clear f => rw [cleared_axis]; exact .inl rfl
  | carry j _ =>
    rw [State.axis_onAxis]
    split
    · rename_i hj; subst hj; exact .inl rfl
    · exact .inl rfl
  | link h _ => rw [h]; exact .inl rfl
  | reset straps power h =>
    rw [resetBlocks_axis]
    exact .inr fun _ _ _ _ h => by cases h
  | unitReset straps h =>
    rw [unitReset_axis]
    exact .inr fun _ _ _ _ h => by cases h
  | scan => rw [State.axis_mapAxes]; exact .inl rfl
  | _ => exact .inl rfl

theorem keptByStep_couplings : KeptByStep CouplingSound := by
  refine keptByStep fun idle released s t h hs i => ?_
  rcases h.laws i with e | e
  · rw [e]; exact hs i
  · exact e

/-! ### The Link Port and the work in hand -/

theorem Frame.linkSound {s t : State} (h : Frame s t) (hs : LinkSound s) : LinkSound t := by
  obtain ⟨x, hx⟩ := h.link
  rw [linkSound_iff, hx]
  exact hs

theorem clearCount_le {n top : Nat} (named : Bool) (h : n ≤ top) : clearCount named n ≤ top := by
  unfold clearCount; split <;> omega

theorem keptByStep_link : KeptByStep LinkSound := by
  refine keptByStep fun idle released s t h hs => ?_
  cases h with
  | run h => exact (Run.frame h).linkSound hs
  | memory h => exact h.frame.linkSound hs
  | begin => exact (frame_beginUpdate s).linkSound hs
  | clear f =>
    obtain ⟨h₁, h₂, h₃, h₄, h₅, h₆, h₇, h₈, h₉⟩ := hs
    exact ⟨h₁, h₂, h₃, h₄, h₅, clearCount_le _ h₆, clearCount_le _ h₇, clearCount_le _ h₈,
      clearCount_le _ h₉⟩
  | link _ h => exact h hs
  | reset => exact LinkPort.sound_afterReset _ _
  | unitReset => exact LinkPort.sound_afterReset _ _
  | _ => exact hs

theorem keptByStep_work : KeptByStep WorkSound := by
  refine keptByStep fun idle released s t h hs => ?_
  cases h with
  | run h => exact (Run.frame h).work hs
  | memory h => exact h.frame.work hs
  | begin => exact (frame_beginUpdate s).work hs
  | link h _ => rw [h]; exact hs
  | reset => exact fun w hw => by cases hw
  | unitReset => exact fun w hw => by cases hw
  | _ => exact hs

/-- Settles O56, one invariant after the other. -/
theorem everyStepKeepsTheQueuesAndCouplings : Obligations.EveryStepKeepsTheQueuesAndCouplings :=
  ⟨keptByStep_moves, keptByStep_cues, keptByStep_couplings, keptByStep_link, keptByStep_work⟩

/-! ### Law 11: captures -/

/-- Settles O35, by what the command does with the capture records. -/
theorem pendingCapturesAreKeptUntilCarried : Obligations.PendingCapturesAreKeptUntilCarried := by
  rintro c s t i _ _ h rfl rfl hx
  cases answers_exec h with
  | steady h => exact .inl ((h.keeps i).capture hx)
  | carried _ j hj hother hr =>
    by_cases hij : i = j
    · subst hij
      exact .inr (.inl ⟨hj, hr⟩)
    · left
      rw [hother i hij]
      exact IndexCapture.Stands.refl _ hx
  | reset _ hc hk hr => exact .inr (.inr ⟨hc i, hk, hr⟩)

/-! ### Law 12: the Staging Buffer -/

/-- The Staging Buffer stands while the rewrite of before is in hand, and is empty after it. -/
def StagingFrozen (s t : State) : Prop :=
  s.memory.engine ≠ .idle →
    (t.memory.engine ≠ .idle → t.memory.staging = s.memory.staging) ∧
      (t.memory.engine = .idle → t.memory.staging = Staging.empty)

/-- A rewrite that has ended stays ended, with the buffer empty, where no request stages or commits. -/
def StagingStep (s t : State) : Prop :=
  (s.memory.engine ≠ .idle ∧ t.memory.engine ≠ .idle ∧ t.memory.staging = s.memory.staging) ∨
    (t.memory.engine = .idle ∧ (t.memory.staging = Staging.empty ∨
      s.memory.engine = .idle ∧ t.memory.staging = s.memory.staging))

theorem StagingStep.of_calm {s t : State} (h : s.memory.Calm t.memory) : StagingStep s t := by
  by_cases he : s.memory.engine = .idle
  · exact .inr ⟨h.idle_iff.2 he, .inr ⟨he, h.staging⟩⟩
  · exact .inl ⟨he, fun h' => he (h.idle_iff.1 h'), h.staging⟩

theorem StagingStep.of_eq {s t : State} (he : t.memory.engine = s.memory.engine)
    (hg : t.memory.staging = s.memory.staging) : StagingStep s t := by
  by_cases hi : s.memory.engine = .idle
  · exact .inr ⟨he.trans hi, .inr ⟨hi, hg⟩⟩
  · exact .inl ⟨hi, by rw [he]; exact hi, hg⟩

theorem StagingFrozen.step {s t u : State} (h : StagingFrozen s t) (h' : StagingStep t u) :
    StagingFrozen s u := by
  intro hs
  obtain ⟨hrun, hend⟩ := h hs
  rcases h' with ⟨ht, hu, hg⟩ | ⟨hu, hg⟩
  · exact ⟨fun _ => hg.trans (hrun ht), fun h => absurd h hu⟩
  · refine ⟨fun h => absurd hu h, fun _ => ?_⟩
    rcases hg with hg | ⟨ht, hg⟩
    · exact hg
    · exact hg.trans (hend ht)

theorem stopPhase_engine (s : State) :
    (stopPhase s).memory.engine = s.memory.engine ∧ (stopPhase s).memory.staging = s.memory.staging := by
  rcases stopPhase_cases s with h | ⟨r, -, -, h⟩ <;> rw [h] <;> exact ⟨rfl, rfl⟩

theorem closeRewrite_engine (outcome : RewriteOutcome) (record : SegmentRecord) (image : SegmentImage)
    (r : Rewrite) (s : State) :
    (closeRewrite outcome record image r s).memory.engine = .idle ∧
      (closeRewrite outcome record image r s).memory.staging = Staging.empty := by
  obtain ⟨segment, eraseOnly, old, new⟩ := r
  cases old <;> cases new <;> exact ⟨rfl, rfl⟩

theorem stagingStep_memoryAct {idle : Prop} (hidle : ¬idle) {s t : State} (h : MemoryAct idle s t) :
    StagingStep s t := by
  cases h with
  | stage _ hi => exact absurd hi hidle
  | accept _ _ hi => exact absurd hi hidle
  | abort he => exact .inl ⟨he, by simp, (stopPhase_engine s).2⟩
  | acknowledge he =>
    have hc := (portStep_resumeIfIdle (((stopPhase s).setEngine
      s.memory.engine.afterAcknowledge).setSuspendRequest false)).memory.trans
      (portFrame_grantRead _).memory
    have hne : s.memory.engine ≠ .idle ∧ s.memory.engine.afterAcknowledge ≠ .idle := by
      cases hs : s.memory.engine <;> simp_all [EngineState.working, EngineState.afterAcknowledge]
    exact .inl ⟨hne.1, fun h => hne.2 (hc.idle_iff.1 h), hc.staging.trans (stopPhase_engine s).2⟩
  | program r he => exact .inl ⟨by simp [he], by simp, rfl⟩
  | close outcome record image r =>
    have hc := (portFrame_grantRead (closeRewrite outcome record image r s)).memory
    obtain ⟨he, hg⟩ := closeRewrite_engine outcome record image r s
    exact .inr ⟨hc.idle_iff.2 he, .inl (hc.staging.trans hg)⟩

theorem stagingStep_change {idle released : Prop} (hidle : ¬idle) {s t : State}
    (h : Change idle released s t) : StagingStep s t := by
  cases h with
  | run h => exact .of_calm (Run.memory h)
  | memory h => exact stagingStep_memoryAct hidle h
  | begin =>
    obtain ⟨hm, -⟩ := beginUpdate_rest s
    exact .of_eq (by rw [hm]) (by rw [hm])
  | link h _ => rw [h]; exact .of_eq rfl rfl
  | reset => exact .inr ⟨rfl, .inl rfl⟩
  | unitReset => exact .inr ⟨rfl, .inl rfl⟩
  | _ => exact .of_eq rfl rfl

/-- Settles O45: while a rewrite is in hand no request stages or commits, and what ends it empties the
buffer. -/
theorem stagingIsFrozenDuringARewrite : Obligations.StagingIsFrozenDuringARewrite := by
  intro c s t h hs
  have hc := (answers_exec h).changes
  have hfrozen : StagingFrozen s t := by
    clear h
    induction hc with
    | refl => exact fun _ => ⟨fun _ => rfl, fun h => absurd h hs⟩
    | tail _ h ih => exact ih.step (stagingStep_change hs h)
  exact hfrozen hs

end Sys2Proof.Machine
end

section
/-! Law 9 and the port's grants: every change keeps each axis's read the one its fetch state tells, and leaves
no grant due. -/

namespace Sys2Proof.Machine

/-! ### A unit right after a power-on reset -/

/-- Every block at its power-on reset values, with the segments as they are (R18, R40, R56, R77, R160). -/
structure Fresh (t : State) : Prop where
  axes : ∀ i, t.axis i = Axis.reset
  clock : t.clock = SkyClock.reset
  cues : t.cues = CueQueue.reset
  memory : t.memory = TableMemory.powerOn t.memory.images
  port : t.port = TablePort.reset
  work : t.work = none

theorem fresh_reset : Fresh State.reset :=
  ⟨fun i => by simp [State.axis, State.reset], rfl, rfl, rfl, rfl, rfl⟩

theorem fresh_resetBlocks (straps : BitVec 5) (power : Power) (s : State) :
    Fresh (resetBlocks straps power s) :=
  ⟨resetBlocks_axis straps power s, rfl, rfl, rfl, rfl, rfl⟩

/-- A fetch of no axis and no read in progress. -/
theorem readsSound_of_idle {t : State} (h : ∀ i, (t.axis i).fetchState = .idle)
    (hp : t.port.reading = none) : ReadsSound t := by
  simp [ReadsSound, Axis.atPort, h, hp]

theorem grantsSound_of_idle {t : State} (h : ∀ i, (t.axis i).fetchState = .idle) : GrantsSound t :=
  ⟨fun i r hr => by simp [askedRead_of_not_waiting (s := t) (i := i) (by simp [h i])] at hr, fun _ => h⟩

theorem Fresh.idle {t : State} (h : Fresh t) (i : AxisIdx) : (t.axis i).fetchState = .idle := by
  rw [h.axes]; rfl

theorem Fresh.reads {t : State} (h : Fresh t) : ReadsSound t :=
  readsSound_of_idle h.idle (by rw [h.port]; rfl)

theorem Fresh.grants {t : State} (h : Fresh t) : GrantsSound t := grantsSound_of_idle h.idle

theorem Fresh.scanning {t : State} (h : Fresh t) : ScanningSound t := fun _ =>
  ⟨by rw [h.clock]; rfl, by rw [h.cues]; rfl, fun i => by rw [h.axes]; rfl, by rw [h.memory]; rfl⟩

theorem unitReset_idle (straps : BitVec 5) (s : State) (i : AxisIdx) :
    ((unitReset straps s).axis i).fetchState = .idle := by
  rw [unitReset_axis]; rfl

/-! ### Law 9 -/

/-- One axis changed with its fetch left alone. -/
theorem ReadsSound.setAxis {s : State} {i : AxisIdx} {b : Axis} (hf : b.fetch = (s.axis i).fetch)
    (hs : b.fetchState = (s.axis i).fetchState) (h : ReadsSound s) : ReadsSound (s.setAxis i b) := by
  refine ReadsSound.congr (s := s) (fun j => ?_) (fun j => ?_) rfl h <;> rw [State.axis_setAxis] <;> split
  · rename_i hj; rw [hf, hj]
  · rfl
  · rename_i hj; rw [hs, hj]
  · rfl

theorem abandonFetch_fetchState (a : Axis) :
    (a.abandonFetch.atPort ↔ a.atPort) ∧ a.abandonFetch.fetchState ≠ .waiting ∧
      a.abandonFetch.fetchState ≠ .granted ∧ (a.fetchState = .idle → a.abandonFetch.fetchState = .idle) := by
  cases h : a.fetchState <;> simp [Axis.atPort, Axis.abandonFetch, h]

theorem ReadsSound.abandon {s : State} {i : AxisIdx} {b : Axis} (hb : (s.axis i).Abandons b)
    (h : ReadsSound s) : ReadsSound (s.setAxis i b) := by
  obtain ⟨hat, hw, hg, -⟩ := abandonFetch_fetchState (s.axis i)
  have hat' : b.atPort ↔ (s.axis i).atPort := by
    unfold Axis.atPort at hat ⊢
    rw [hb.fetchState]
    exact hat
  refine ⟨fun j => ?_, fun j => ?_⟩ <;> rw [State.axis_setAxis] <;> split
  · rename_i hj; subst hj; exact hat'.trans (h.1 i)
  · exact h.1 j
  · rw [hb.fetchState]
    exact fun h => absurd h (by simp [hw, hg])
  · exact h.2 j

theorem readsSound_act {o : Prop} {s t : State} (h : Act o s t) (hs : ReadsSound s) : ReadsSound t := by
  cases h with
  | axes v hv => exact ReadsSound.congr (s := s) (fun i => (hv i).fetch) (fun i => (hv i).fetchState) rfl hs
  | wake i b _ _ hf hfs => exact hs.setAxis hf hfs
  | abandon i b hb _ => exact hs.abandon hb
  | bind i law _ _ =>
    exact ReadsSound.abandon (s := { s with memory := s.memory.rebind i (s.axis i).law law })
      (Axis.abandons_bindLaw law (s.axis i)) hs
  | port _ h => exact h.reads hs
  | _ => exact hs

theorem readsSound_run {o : Prop} {s t : State} (h : Run o s t) (hs : ReadsSound s) : ReadsSound t := by
  induction h with
  | refl => exact hs
  | tail _ h ih => exact readsSound_act h ih

theorem stopPhase_port (s : State) : (stopPhase s).port = s.port := by
  rcases stopPhase_cases s with h | ⟨r, -, -, h⟩
  · rw [h]
  · rw [h]; rfl

theorem readsSound_stopPhase {s : State} (h : ReadsSound s) : ReadsSound (stopPhase s) :=
  ReadsSound.congr (s := s) (fun i => by rw [stopPhase_axis]) (fun i => by rw [stopPhase_axis])
    (by rw [stopPhase_port]) h

theorem readsSound_memoryAct {idle : Prop} {s t : State} (h : MemoryAct idle s t) (hs : ReadsSound s) :
    ReadsSound t := by
  cases h with
  | abort => exact readsSound_stopPhase hs
  | acknowledge =>
    exact ((portStep_resumeIfIdle (((stopPhase s).setEngine s.memory.engine.afterAcknowledge).setSuspendRequest
      false)).reads (readsSound_stopPhase hs)).grantRead
  | close outcome record image r =>
    exact ReadsSound.grantRead (s := closeRewrite outcome record image r s) hs
  | _ => exact hs

theorem readsSound_change {idle released : Prop} {s t : State} (h : Change idle released s t)
    (hs : ReadsSound s) : ReadsSound t := by
  cases h with
  | run h => exact readsSound_run h hs
  | memory h => exact readsSound_memoryAct h hs
  | begin =>
    exact ReadsSound.congr (s := s) (fun i => by rw [beginUpdate_axis]) (fun i => by rw [beginUpdate_axis])
      (by rw [(beginUpdate_rest s).2.1]) hs
  | clear f => exact ReadsSound.congr (s := s) (fun i => by rw [cleared_axis]) (fun i => by rw [cleared_axis]) rfl hs
  | carry i => exact hs.setAxis rfl rfl
  | link h _ => rw [h]; exact hs
  | reset straps power => exact (fresh_resetBlocks straps power s).reads
  | unitReset straps => exact readsSound_of_idle (unitReset_idle straps s) rfl
  | scan =>
    exact ReadsSound.congr (s := s) (fun i => by rw [State.axis_mapAxes]; rfl)
      (fun i => by rw [State.axis_mapAxes]; rfl) rfl hs
  | _ => exact hs

/-! ### Until the start-up scan is complete -/

theorem StartUp.eq_complete {x : StartUp} (h : x ≠ .scanning) : x = .complete := by
  cases x <;> simp_all

/-- A unit that is open has its scan behind it. -/
theorem ScanningSound.open_complete {s : State} (h : ScanningSound s) (ho : s.Open) :
    s.memory.startUp = .complete := by
  refine ho.elim id fun hr => StartUp.eq_complete fun hscan => ?_
  exact hr (h hscan).2.1

theorem ScanningSound.setAxis {s : State} {i : AxisIdx} {b : Axis}
    (hb : (s.axis i).state = .off → b.state = .off) (h : ScanningSound s) :
    ScanningSound (s.setAxis i b) := by
  intro hscan
  obtain ⟨h₁, h₂, h₃, h₄⟩ := h hscan
  refine ⟨h₁, h₂, fun j => ?_, h₄⟩
  rw [State.axis_setAxis]
  split
  · exact hb (h₃ i)
  · exact h₃ j

theorem ScanningSound.congr {s t : State} (hm : t.memory.startUp = s.memory.startUp)
    (he : t.memory.engine = s.memory.engine) (hk : t.clock.state = s.clock.state)
    (hc : t.cues.records = s.cues.records)
    (ha : ∀ i, (s.axis i).state = .off → (t.axis i).state = .off) (h : ScanningSound s) :
    ScanningSound t := by
  intro hscan
  obtain ⟨h₁, h₂, h₃, h₄⟩ := h (hm.symm.trans hscan)
  exact ⟨hk.trans h₁, hc.trans h₂, fun i => ha i (h₃ i), he.trans h₄⟩

theorem scanningSound_act {o : Prop} {s t : State} (h : Act o s t)
    (ho : o → s.memory.startUp = .complete) (hs : ScanningSound s) : ScanningSound t := by
  cases h with
  | clock k _ _ hstate => exact ScanningSound.congr (s := s) rfl rfl hstate rfl (fun _ => id) hs
  | cues q _ he =>
    intro hscan
    obtain ⟨h₁, h₂, h₃, h₄⟩ := hs hscan
    exact ⟨h₁, he h₂, h₃, h₄⟩
  | axes v hv => exact ScanningSound.congr (s := s) rfl rfl rfl rfl (fun i => (hv i).off) hs
  | wake i b _ _ _ _ h _ =>
    intro hscan
    have hc := (ho h).symm.trans hscan
    cases hc
  | abandon i b hb _ => exact hs.setAxis hb.off
  | bind i law _ _ =>
    have hm := calm_rebind i (s.axis i).law law s.memory
    refine ScanningSound.setAxis (s := { s with memory := s.memory.rebind i (s.axis i).law law })
      (Axis.abandons_bindLaw law (s.axis i)).off fun hscan => ?_
    obtain ⟨h₁, h₂, h₃, h₄⟩ := hs (hm.startUp.symm.trans hscan)
    exact ⟨h₁, h₂, h₃, hm.idle_iff.2 h₄⟩
  | port _ h => exact hs.of_portFrame h.toPortFrame
  | _ => exact hs

/-- A rewrite is in hand only after the start-up scan. -/
theorem ScanningSound.not_scanning {s : State} (h : ScanningSound s) (he : s.memory.engine ≠ .idle) :
    s.memory.startUp ≠ .scanning := fun hscan => he (h hscan).2.2.2

theorem stopPhase_startUp (s : State) : (stopPhase s).memory.startUp = s.memory.startUp := by
  rcases stopPhase_cases s with h | ⟨r, -, -, h⟩
  · rw [h]
  · rw [h]; rfl

theorem closeRewrite_startUp (outcome : RewriteOutcome) (record : SegmentRecord) (image : SegmentImage)
    (r : Rewrite) (s : State) :
    (closeRewrite outcome record image r s).memory.startUp = s.memory.startUp := by
  obtain ⟨segment, eraseOnly, old, new⟩ := r
  cases old <;> cases new <;> rfl

theorem working_ne_idle {e : EngineState} (h : e.working = true) : e ≠ .idle := by
  cases e <;> simp_all [EngineState.working]

/-- Every event of the engine leaves the start-up state as it is, and comes after the scan but for a write of
the Staging Buffer. -/
theorem MemoryAct.startUp {idle : Prop} {s t : State} (h : MemoryAct idle s t) :
    t.memory.startUp = s.memory.startUp := by
  cases h with
  | abort => exact stopPhase_startUp s
  | acknowledge =>
    exact ((portStep_resumeIfIdle _).memory.trans (portFrame_grantRead _).memory).startUp.trans
      (stopPhase_startUp s)
  | close outcome record image r =>
    exact (portFrame_grantRead _).memory.startUp.trans (closeRewrite_startUp outcome record image r s)
  | _ => rfl

theorem scanningSound_memoryAct {idle : Prop} {s t : State} (h : MemoryAct idle s t)
    (hs : ScanningSound s) : ScanningSound t := by
  have hbusy : s.memory.engine ≠ .idle → ScanningSound t := fun he hscan =>
    absurd (h.startUp.symm.trans hscan) (hs.not_scanning he)
  cases h with
  | stage => exact hs
  | accept _ _ _ _ hc =>
    intro hscan
    have := hc.symm.trans hscan
    cases this
  | abort he => exact hbusy he
  | acknowledge he => exact hbusy (working_ne_idle he)
  | program r he => exact hbusy (by simp [he])
  | close _ _ _ _ he => exact hbusy he

theorem scanningSound_run {s t : State} (h : Run s.Open s t) (hs : ScanningSound s) : ScanningSound t :=
  Run.keeps (fun _ _ h ho => scanningSound_act h ho) h hs.open_complete hs

theorem scanningSound_of_off {t : State} (hk : t.clock.state = .stopped) (hc : t.cues.records = [])
    (ha : ∀ i, (t.axis i).state = .off) (he : t.memory.engine = .idle) : ScanningSound t :=
  fun _ => ⟨hk, hc, ha, he⟩

theorem scanningSound_change {idle released : Prop} {s t : State} (h : Change idle released s t)
    (hs : ScanningSound s) : ScanningSound t := by
  cases h with
  | run h => exact scanningSound_run h hs
  | memory h => exact scanningSound_memoryAct h hs
  | begin =>
    obtain ⟨hm, -, hc, hk⟩ := beginUpdate_rest s
    exact ScanningSound.congr (s := s) (by rw [hm]) (by rw [hm]) hk (by rw [hc])
      (fun i => by rw [beginUpdate_axis]; exact id) hs
  | start h =>
    intro hscan
    have := h.symm.trans hscan
    cases this
  | insert c h _ =>
    intro hscan
    have := h.symm.trans hscan
    cases this
  | clear f => exact ScanningSound.congr (s := s) rfl rfl rfl rfl (fun i => by rw [cleared_axis]; exact id) hs
  | carry i => exact hs.setAxis id
  | link h _ => rw [h]; exact hs
  | reset straps power => exact (fresh_resetBlocks straps power s).scanning
  | unitReset straps =>
    exact scanningSound_of_off rfl rfl (fun i => by rw [unitReset_axis]; rfl) rfl
  | scan h => exact fun hscan => by cases hscan
  | queue => exact hs

/-! ### Grants -/

theorem GrantsSound.congr {s t : State} (hm : t.memory.startUp = s.memory.startUp)
    (he : t.memory.engine = s.memory.engine) (hp : t.port.reading = s.port.reading)
    (hf : ∀ i, (t.axis i).fetch = (s.axis i).fetch)
    (hfs : ∀ i, (t.axis i).fetchState = (s.axis i).fetchState)
    (hl : ∀ i, (t.axis i).law = (s.axis i).law)
    (hd : ∀ id, (t.entry id).segments = (s.entry id).segments) (h : GrantsSound s) : GrantsSound t :=
  GrantsSound.mono hm (fun i => .inl (askedRead_congr (hf i) (hfs i) (hl i) hd)) hp (.inl he)
    (fun _ i hi => (hfs i).trans hi) h

/-- One axis that abandons its fetch asks for no read, and no other asks for more. -/
theorem GrantsSound.abandon {s : State} {i : AxisIdx} {b : Axis} (hb : (s.axis i).Abandons b)
    (h : GrantsSound s) : GrantsSound (s.setAxis i b) := by
  obtain ⟨-, hw, -, hidle⟩ := abandonFetch_fetchState (s.axis i)
  refine GrantsSound.mono (s := s) rfl (fun j => ?_) rfl (.inl rfl) (fun _ j hj => ?_) h
  · by_cases hij : i = j
    · subst hij
      refine .inr (askedRead_of_not_waiting ?_)
      rw [State.axis_setAxis_same, hb.fetchState]
      exact hw
    · have hax := State.axis_setAxis_ne s hij b
      exact .inl (askedRead_congr (by rw [hax]) (by rw [hax]) (by rw [hax]) fun _ => rfl)
  · rw [State.axis_setAxis]
    split
    · rename_i hij
      subst hij
      exact hb.fetchState.trans (hidle hj)
    · exact hj

theorem grantsSound_act {o : Prop} {s t : State} (h : Act o s t) (hs : ScanningSound s)
    (hr : ReadsSound s) (hg : GrantsSound s) : GrantsSound t := by
  cases h with
  | axes v hv =>
    exact GrantsSound.congr (s := s) rfl rfl rfl (fun i => (hv i).fetch) (fun i => (hv i).fetchState)
      (fun i => (hv i).law) (fun _ => rfl) hg
  | wake i b _ hl hf hfs _ _ =>
    refine GrantsSound.congr (s := s) rfl rfl rfl (fun j => ?_) (fun j => ?_) (fun j => ?_)
      (fun _ => rfl) hg <;> rw [State.axis_setAxis] <;> split
    · rename_i hj; rw [hf, hj]
    · rfl
    · rename_i hj; rw [hfs, hj]
    · rfl
    · rename_i hj; rw [hl, hj]
    · rfl
  | abandon i b hb _ => exact hg.abandon hb
  | bind i law _ _ =>
    refine GrantsSound.abandon (s := { s with memory := s.memory.rebind i (s.axis i).law law })
      (Axis.abandons_bindLaw law (s.axis i)) ?_
    have hm := calm_rebind i (s.axis i).law law s.memory
    have he : (s.memory.rebind i (s.axis i).law law).engine = s.memory.engine := by
      unfold TableMemory.rebind
      cases (s.axis i).law.tableId <;> cases law.tableId <;> rfl
    refine GrantsSound.congr (s := s) hm.startUp he rfl (fun _ => rfl) (fun _ => rfl) (fun _ => rfl)
      (fun id => ?_) hg
    obtain ⟨b, hb⟩ := hm.entry id
    exact (congrArg DirEntry.segments hb :)
  | port _ h => exact h.grants hs hr hg
  | _ => exact hg

/-- The three invariants of the port together. -/
def PortSound (s : State) : Prop := ScanningSound s ∧ ReadsSound s ∧ GrantsSound s

theorem portSound_run {s t : State} (h : Run s.Open s t) (hs : PortSound s) : PortSound t := by
  refine Run.keeps (fun s t h ho hs => ?_) h hs.1.open_complete hs
  obtain ⟨hscan, hreads, hgrants⟩ := hs
  exact ⟨scanningSound_act h ho hscan, readsSound_act h hreads, grantsSound_act h hscan hreads hgrants⟩

theorem grantsSound_memoryAct {idle : Prop} {s t : State} (h : MemoryAct idle s t) (hs : ScanningSound s)
    (hg : GrantsSound s) : GrantsSound t := by
  have hholds : ∀ {t : State}, t.memory.startUp = s.memory.startUp →
      t.memory.engine.grants = false → (∀ i, t.axis i = s.axis i) → GrantsSound t :=
    fun hm he ha => ⟨fun _ _ _ => .inr he, fun hscan i => by
      rw [ha]; exact hg.2 (hm.symm.trans hscan) i⟩
  cases h with
  | stage => exact hg
  | accept => exact hholds rfl rfl fun _ => rfl
  | abort => exact hholds (stopPhase_startUp s) rfl (stopPhase_axis s)
  | acknowledge he =>
    refine grantsSound_grantRead fun hscan => absurd ?_ (hs.not_scanning (working_ne_idle he))
    have hres := (portStep_resumeIfIdle (((stopPhase s).setEngine
      s.memory.engine.afterAcknowledge).setSuspendRequest false)).memory.startUp
    exact (hres.trans (stopPhase_startUp s)).symm.trans hscan
  | program => exact hholds rfl rfl fun _ => rfl
  | close outcome record image r he =>
    refine grantsSound_grantRead fun hscan => absurd ?_ (hs.not_scanning he)
    exact (closeRewrite_startUp outcome record image r s).symm.trans hscan

theorem portSound_change {idle released : Prop} {s t : State} (h : Change idle released s t)
    (hs : PortSound s) : PortSound t := by
  obtain ⟨hscan, hreads, hgrants⟩ := hs
  refine ⟨scanningSound_change h hscan, readsSound_change h hreads, ?_⟩
  cases h with
  | run h => exact (portSound_run h ⟨hscan, hreads, hgrants⟩).2.2
  | memory h => exact grantsSound_memoryAct h hscan hgrants
  | begin =>
    obtain ⟨hm, hp, -⟩ := beginUpdate_rest s
    exact GrantsSound.congr (s := s) (by rw [hm]) (by rw [hm]) (by rw [hp])
      (fun i => by rw [beginUpdate_axis]) (fun i => by rw [beginUpdate_axis])
      (fun i => by rw [beginUpdate_axis]) (fun _ => by unfold State.entry; rw [hm]) hgrants
  | clear f =>
    exact GrantsSound.congr (s := s) rfl rfl rfl (fun i => by rw [cleared_axis])
      (fun i => by rw [cleared_axis]) (fun i => by rw [cleared_axis]) (fun _ => rfl) hgrants
  | carry i =>
    have hax : ∀ j, (s.onAxis i Axis.releaseCapture).axis j = s.axis j ∨
        (s.onAxis i Axis.releaseCapture).axis j = (s.axis j).releaseCapture := fun j => by
      rw [State.axis_onAxis]
      split
      · rename_i hj; subst hj; exact .inr rfl
      · exact .inl rfl
    exact GrantsSound.congr (s := s) rfl rfl rfl (fun j => by rcases hax j with e | e <;> rw [e]; rfl)
      (fun j => by rcases hax j with e | e <;> rw [e]; rfl)
      (fun j => by rcases hax j with e | e <;> rw [e]; rfl) (fun _ => rfl) hgrants
  | link h _ => rw [h]; exact hgrants
  | reset straps power => exact (fresh_resetBlocks straps power s).grants
  | unitReset straps => exact grantsSound_of_idle (unitReset_idle straps s)
  | scan h =>
    exact grantsSound_of_idle fun i => by rw [State.axis_mapAxes]; exact hgrants.2 h i
  | _ => exact hgrants

/-- Settles O57, by what each change does to the fetches, the port and the grants. -/
theorem everyStepKeepsOneReadPerAxis : Obligations.EveryStepKeepsOneReadPerAxis :=
  ⟨keptByStep fun _ _ _ _ => readsSound_change, keptByStep fun _ _ _ _ => portSound_change⟩

end Sys2Proof.Machine
end

section
/-! Table Memory's canonical form (R57) and its completion markers (R58): every event of Table Memory keeps
them. -/

namespace Sys2Proof.Machine

/-! ### Table Memory's invariants under its changes -/

/-- The program phase of a rewrite is running, suspended or to come. -/
def TableMemory.ToProgram (t : TableMemory) (r : Rewrite) : Prop :=
  (t.engine ≠ .idle ∧ r.eraseOnly = false) ∨ t.engine = .programming ∨ t.engine = .programSuspended

/-- The rule of the completion markers, of Table Memory alone. -/
def TableMemory.Marked (t : TableMemory) : Prop :=
  (∀ k, (t.image k).marker = true → imageComplete (t.image k).header (t.image k).slots = true) ∧
    ∀ r, t.rewrite = some r → t.ToProgram r → t.staging.filled = true

theorem markerSound_iff (s : State) : MarkerSound s ↔ s.memory.Marked := Iff.rfl

section
variable {t t' : TableMemory}

theorem TableMemory.Canonical.calm (hc : t.Calm t') (h : t.Canonical) : t'.Canonical := by
  rw [canonical_iff] at h ⊢
  rwa [hc.images, hc.records, hc.staging, hc.rewrite]

theorem TableMemory.Canonical.setImage (h : t.Canonical) {k : Nat} (hk : k < 256) {x : SegmentImage}
    (hx : keysRise 63 0 x.slots = true) : (t.setImage k x).Canonical := by
  obtain ⟨hi, hr, hg, hw⟩ := canonical_iff.1 h
  exact canonical_iff.2 ⟨imagesWf_set hk hx hi, hr, hg, hw⟩

theorem TableMemory.Canonical.setRecord (h : t.Canonical) {k : Nat} (hk : k < 256) (x : SegmentRecord) :
    (t.setRecord k x).Canonical := by
  obtain ⟨hi, hr, hg, hw⟩ := canonical_iff.1 h
  exact canonical_iff.2 ⟨hi, recordsWf_set hk x hr, hg, hw⟩

/-- With no rewrite in hand and an empty Staging Buffer, what is left is the segments and their records. -/
theorem TableMemory.Canonical.emptied (h : t.Canonical) (hi : t'.images = t.images)
    (hr : t'.records = t.records) (hg : t'.staging = Staging.empty) (hw : t'.rewrite = none) :
    t'.Canonical := by
  obtain ⟨h₁, h₂, -, -⟩ := canonical_iff.1 h
  exact canonical_iff.2 ⟨hi ▸ h₁, hr ▸ h₂, by rw [hg]; rfl, fun r h => by rw [hw] at h; cases h⟩

theorem TableMemory.Canonical.powerOn (h : t.Canonical) : (TableMemory.powerOn t.images).Canonical :=
  canonical_iff.2 ⟨(canonical_iff.1 h).1, rfl, rfl, fun _ h => by cases h⟩

/-- The records of a scan are in canonical form: a BLANK segment is not listed (R59). -/
theorem recordsWf_scanRecords {m : Sparse SegmentImage} (h : imagesWf m = true) :
    recordsWf (scanRecords m) = true := by
  simp only [imagesWf, Bool.and_eq_true] at h
  simp only [recordsWf, Bool.and_eq_true, List.all_eq_true, decide_eq_true_eq]
  constructor
  · refine keysRise_filterMap (fun e e' he => ?_) h.1
    split at he
    · cases he
    · cases he; rfl
  · intro e he
    obtain ⟨x, -, hx⟩ := List.mem_filterMap.1 he
    split at hx
    · cases hx
    · rename_i hblank
      cases hx
      exact hblank

theorem TableMemory.Canonical.scan (h : t.Canonical) : t.scan.Canonical := by
  obtain ⟨h₁, -, h₃, h₄⟩ := canonical_iff.1 h
  exact canonical_iff.2 ⟨h₁, recordsWf_scanRecords h₁, h₃, h₄⟩

theorem TableMemory.Marked.setImage (h : t.Marked) (k : Nat) {x : SegmentImage}
    (hx : x.marker = true → imageComplete x.header x.slots = true) : (t.setImage k x).Marked := by
  refine ⟨fun j => ?_, h.2⟩
  by_cases hj : j = k
  · rw [hj, image_setImage_same]; exact hx
  · rw [image_setImage_ne _ hj]; exact h.1 j

/-- The markers stand with the segments, where no more is to be programmed than before. -/
theorem TableMemory.Marked.congr (h : t.Marked) (hi : t'.images = t.images)
    (hp : ∀ r, t'.rewrite = some r → t'.ToProgram r → t'.staging.filled = true) : t'.Marked := by
  refine ⟨fun k => ?_, hp⟩
  unfold TableMemory.image
  rw [hi]
  exact h.1 k

theorem EngineState.toProgram_of_resumed {e : EngineState}
    (h : e.resumed = .programming ∨ e.resumed = .programSuspended) :
    e = .programming ∨ e = .programSuspended := by
  cases e <;> simp_all [EngineState.resumed]

theorem TableMemory.Calm.toProgram (hc : t.Calm t') {r : Rewrite} (h : t'.ToProgram r) :
    t.ToProgram r := by
  rcases h with ⟨he, hr⟩ | he
  · exact .inl ⟨fun h => he (hc.idle_iff.2 h), hr⟩
  · rcases hc.engine with e | e <;> rw [e] at he
    · exact .inr he
    · exact .inr (EngineState.toProgram_of_resumed he)

theorem TableMemory.Marked.calm (hc : t.Calm t') (h : t.Marked) : t'.Marked :=
  h.congr hc.images fun r hr hp => by
    rw [hc.staging]
    exact h.2 r (hc.rewrite.symm.trans hr) (hc.toProgram hp)

theorem TableMemory.Marked.noRewrite (h : t.Marked) (hi : t'.images = t.images) (hw : t'.rewrite = none) :
    t'.Marked := h.congr hi fun r hr => by rw [hw] at hr; cases hr

theorem TableMemory.stopped_rise (draw : Nat) (r : Rewrite) (h : t.Canonical) :
    keysRise 63 0 (t.stopped draw r).slots = true := by
  have hslots := h.image_rise r.segment
  unfold TableMemory.stopped
  split
  · exact SegmentImage.keeping_rise draw hslots
  · exact SegmentImage.written_rise _ hslots (canonical_iff.1 h).2.2.1
  all_goals exact hslots

theorem TableMemory.stopped_marker {draw : Nat} {r : Rewrite} (h : t.Marked)
    (hm : (t.stopped draw r).marker = true) :
    imageComplete (t.stopped draw r).header (t.stopped draw r).slots = true := by
  unfold TableMemory.stopped at hm ⊢
  cases he : t.engine <;> simp only [he] at hm ⊢
  case erasing => exact SegmentImage.keeping_marker hm
  case programming => exact SegmentImage.written_marker (h.1 _) hm
  all_goals exact h.1 _ hm

end

/-! ### A phase that stops, a rewrite that ends -/

theorem canonical_stopPhase {s : State} (h : s.memory.Canonical) : (stopPhase s).memory.Canonical := by
  rcases stopPhase_cases s with e | ⟨r, -, hr, e⟩ <;> rw [e]
  · exact h
  · exact h.setImage (h.2 r hr) (TableMemory.stopped_rise _ r h)

theorem marked_stopPhase {s : State} (h : s.memory.Marked) : (stopPhase s).memory.Marked := by
  rcases stopPhase_cases s with e | ⟨r, -, -, e⟩ <;> rw [e]
  · exact h
  · exact h.setImage r.segment (TableMemory.stopped_marker h)

/-- What the end of a rewrite leaves of Table Memory but for the Directory (R71). -/
theorem closeRewrite_memory (outcome : RewriteOutcome) (record : SegmentRecord) (image : SegmentImage)
    (r : Rewrite) (s : State) :
    (closeRewrite outcome record image r s).memory.images = (s.memory.setImage r.segment image).images ∧
      (closeRewrite outcome record image r s).memory.records =
        (s.memory.setRecord r.segment record).records ∧
      (closeRewrite outcome record image r s).memory.rewrite = none := by
  obtain ⟨segment, eraseOnly, old, new⟩ := r
  cases old <;> cases new <;> exact ⟨rfl, rfl, rfl⟩

/-- What a UNIT_RESET leaves of Table Memory but for the Directory (R78). -/
theorem memory_unitReset (t : TableMemory) :
    t.unitReset.images = t.images ∧ t.unitReset.staging = Staging.empty ∧ t.unitReset.rewrite = none ∧
      t.unitReset.engine = .idle ∧
      (t.unitReset.records = t.records ∨
        ∃ r, t.rewrite = some r ∧ t.unitReset.records = (t.setRecord r.segment .torn).records) := by
  unfold TableMemory.unitReset
  split
  · exact ⟨rfl, rfl, rfl, rfl, .inl rfl⟩
  · exact ⟨rfl, rfl, rfl, rfl, .inl rfl⟩
  · rename_i r hr _
    obtain ⟨segment, eraseOnly, old, new⟩ := r
    refine ⟨?_, rfl, rfl, rfl, .inr ⟨_, hr, ?_⟩⟩ <;> cases old <;> cases new <;> rfl

theorem TableMemory.Canonical.unitReset {t : TableMemory} (h : t.Canonical) : t.unitReset.Canonical := by
  obtain ⟨hi, hg, hw, -, hr⟩ := memory_unitReset t
  rcases hr with hr | ⟨r, hrw, hr⟩
  · exact h.emptied hi hr hg hw
  · exact (h.setRecord (h.2 r hrw) .torn).emptied hi hr hg hw

/-! ### Every event -/

theorem canonical_memoryAct {idle : Prop} {s t : State} (h : MemoryAct idle s t) (hs : s.memory.Canonical) :
    t.memory.Canonical := by
  obtain ⟨hi, hr, hg, hw⟩ := TableMemory.canonical_iff.1 hs
  cases h with
  | stage g _ _ hrise => exact TableMemory.canonical_iff.2 ⟨hi, hr, hrise hg, hw⟩
  | accept segment erase _ hc =>
    have hk := (commit_checks s hc).1
    have hset := (hs.setRecord hk .busy).setImage hk
      (x := { s.memory.image segment with openMark := true }) (hs.image_rise segment)
    obtain ⟨hi', hr', hg', -⟩ := TableMemory.canonical_iff.1 hset
    exact TableMemory.canonical_iff.2 ⟨hi', hr', hg', by rintro _ ⟨⟩; exact hk⟩
  | abort => exact canonical_stopPhase hs
  | acknowledge =>
    exact .calm ((portStep_resumeIfIdle _).memory.trans (portFrame_grantRead _).memory)
      (canonical_stopPhase hs)
  | program r _ hrw =>
    exact hs.setImage (x := { SegmentImage.erased with openMark := true }) (hw r hrw) rfl
  | close outcome record image r _ hrw hc =>
    obtain ⟨himages, hrecords, hnone⟩ := closeRewrite_memory outcome record image r s
    refine .calm (portFrame_grantRead _).memory ?_
    exact ((hs.setRecord (hw r hrw) record).setImage (hw r hrw) (hc.rise hs)).emptied himages hrecords
      (closeRewrite_engine outcome record image r s).2 hnone

theorem EngineState.toProgram_of_acknowledge {e : EngineState}
    (h : e.afterAcknowledge = .programming ∨ e.afterAcknowledge = .programSuspended) :
    e = .programming ∨ e = .programSuspended := by
  cases e <;> simp_all [EngineState.afterAcknowledge]

theorem marked_memoryAct {idle : Prop} {s t : State} (h : MemoryAct idle s t) (hs : s.memory.Marked) :
    t.memory.Marked := by
  cases h with
  | stage g _ he =>
    refine hs.congr rfl fun r _ hp => ?_
    simp [TableMemory.ToProgram, he] at hp
  | accept segment erase _ hc =>
    have hset := hs.setImage segment (x := { s.memory.image segment with openMark := true })
      (hs.1 segment)
    refine hset.congr rfl ?_
    rintro _ ⟨⟩ hp
    refine (commit_checks s hc).2.2.2.2 ?_
    simpa [TableMemory.ToProgram, TableMemory.accept] using hp
  | abort he =>
    have hstop := marked_stopPhase hs
    refine hstop.congr rfl fun r hr hp => hstop.2 r hr (.inl ⟨?_, ?_⟩)
    · rw [(stopPhase_engine s).1]; exact he
    · simpa [TableMemory.ToProgram, State.setEngine] using hp
  | acknowledge he =>
    refine .calm ((portStep_resumeIfIdle _).memory.trans (portFrame_grantRead _).memory) ?_
    have hstop := marked_stopPhase hs
    refine hstop.congr rfl fun r hr hp => hstop.2 r hr ?_
    unfold TableMemory.ToProgram
    rw [(stopPhase_engine s).1]
    rcases hp with ⟨-, hp⟩ | hp
    · exact .inl ⟨working_ne_idle he, hp⟩
    · exact .inr (EngineState.toProgram_of_acknowledge hp)
  | program r he hr hk =>
    have hset := hs.setImage r.segment (x := { SegmentImage.erased with openMark := true })
      (fun h => by cases h)
    refine hset.congr rfl fun r' hr' _ => hs.2 r' hr' (.inl ⟨by simp [he], ?_⟩)
    cases hr.symm.trans hr'
    exact hk
  | close outcome record image r _ _ hc =>
    obtain ⟨himages, -, hnone⟩ := closeRewrite_memory outcome record image r s
    refine .calm (portFrame_grantRead _).memory ?_
    exact (hs.setImage r.segment (hc.marker hs)).noRewrite himages hnone

/-- What a change does to Table Memory: an event of the Rewrite Engine, a reset, the start-up scan, or
nothing but to resume the engine, to count stalls and to keep the bound-axis sets. -/
theorem Change.memory_cases {idle released : Prop} {s t : State} (h : Change idle released s t) :
    s.memory.Calm t.memory ∨ MemoryAct idle s t ∨
      t.memory = TableMemory.powerOn (stopPhase s).memory.images ∨
      t.memory = (stopPhase s).memory.unitReset ∨ t.memory = s.memory.scan := by
  cases h with
  | run h => exact .inl (Run.memory h)
  | memory h => exact .inr (.inl h)
  | begin => rw [(beginUpdate_rest s).1]; exact .inl (.refl _)
  | clear f => exact .inl (calm_stalls _ _)
  | link h _ => rw [h]; exact .inl (.refl _)
  | reset => exact .inr (.inr (.inl rfl))
  | unitReset => exact .inr (.inr (.inr (.inl rfl)))
  | scan => exact .inr (.inr (.inr (.inr rfl)))
  | _ => exact .inl (.refl _)

theorem canonical_change {idle released : Prop} {s t : State} (h : Change idle released s t)
    (hs : s.memory.Canonical) : t.memory.Canonical := by
  rcases h.memory_cases with h | h | h | h | h
  · exact hs.calm h
  · exact canonical_memoryAct h hs
  · rw [h]; exact (canonical_stopPhase hs).powerOn
  · rw [h]; exact (canonical_stopPhase hs).unitReset
  · rw [h]; exact hs.scan

theorem marked_change {idle released : Prop} {s t : State} (h : Change idle released s t)
    (hs : s.memory.Marked) : t.memory.Marked := by
  rcases h.memory_cases with h | h | h | h | h
  · exact hs.calm h
  · exact marked_memoryAct h hs
  · exact (marked_stopPhase hs).noRewrite (by rw [h]; rfl) (by rw [h]; rfl)
  · obtain ⟨hi, -, hw, -⟩ := memory_unitReset (stopPhase s).memory
    exact (marked_stopPhase hs).noRewrite (by rw [h, hi]) (by rw [h, hw])
  · rw [h]
    exact hs.congr rfl fun r hr hp => hs.2 r hr hp

theorem keptByStep_memory : KeptByStep MemorySound := keptByStep fun _ _ _ _ => canonical_change

theorem keptByStep_marker : KeptByStep MarkerSound := keptByStep fun _ _ _ _ => marked_change

end Sys2Proof.Machine
end

section
/-! Law 8: the Directory true to the segment records, the bound-axis sets true to the laws, and every table in
use COMPLETE and outside every rewrite. -/

namespace Sys2Proof.Machine

/-! ### Entries and the claims they are built from -/

theorem buildEntry_rebound (id : TableId) (m : Sparse SegmentRecord) (b b' : AxisSet) :
    { buildEntry id m b with bound := b' } = buildEntry id m b' := by
  unfold buildEntry
  dsimp only
  split
  · rfl
  · split
    · rfl
    · split
      · rfl
      · split
        · split <;> rfl
        · rfl

theorem buildEntry_bound (id : TableId) (m : Sparse SegmentRecord) (b : AxisSet) :
    (buildEntry id m b).bound = b := by
  rw [← buildEntry_rebound id m b b]

/-- The entry depends on the records through the claims alone. -/
theorem buildEntry_congr {id : TableId} {m m' : Sparse SegmentRecord} (h : claimsOf id m' = claimsOf id m)
    (b : AxisSet) : buildEntry id m' b = buildEntry id m b := by
  unfold buildEntry
  rw [h]

/-- The claim a listed record makes on an id. -/
def claimIn (id : TableId) (e : Nat × SegmentRecord) : Option Claim :=
  match e.2 with
  | .valid header first last =>
    if header.table = id then some { segment := e.1, header, first, last } else none
  | .blank | .torn | .busy => none

theorem claimsOf_eq (id : TableId) (m : Sparse SegmentRecord) :
    claimsOf id m = m.filterMap (claimIn id) := rfl

theorem claimIn_eq_some {id : TableId} {e : Nat × SegmentRecord} {c : Claim} (h : claimIn id e = some c) :
    e.1 = c.segment ∧ e.2 = .valid c.header c.first c.last ∧ c.header.table = id := by
  obtain ⟨k, x⟩ := e
  cases x with
  | valid header first last =>
    simp only [claimIn] at h
    split at h
    · rename_i hid; cases h; exact ⟨rfl, rfl, hid⟩
    · cases h
  | blank | torn | busy => cases h

theorem claimIn_eq_none {id : TableId} {k : Nat} {x : SegmentRecord} (h : x.presentTable ≠ some id) :
    claimIn id (k, x) = none := by
  cases x with
  | valid header first last =>
    simp only [SegmentRecord.presentTable, ne_eq, Option.some.injEq] at h
    simp [claimIn, h]
  | blank | torn | busy => rfl

theorem claimsOf_cons_none {id : TableId} {k : Nat} {x : SegmentRecord} (h : x.presentTable ≠ some id)
    (m : Sparse SegmentRecord) : claimsOf id ((k, x) :: m) = claimsOf id m :=
  List.filterMap_cons_none (claimIn_eq_none h)

theorem claimsOf_cons_congr (id : TableId) (e : Nat × SegmentRecord) {m m' : Sparse SegmentRecord}
    (h : claimsOf id m' = claimsOf id m) : claimsOf id (e :: m') = claimsOf id (e :: m) := by
  simp only [claimsOf_eq, List.filterMap_cons] at h ⊢
  rw [h]

/-- A record without the id put over one without it leaves the claims. -/
theorem claimsOf_put {id : TableId} {k low top : Nat} {x : SegmentRecord} (hx : x.presentTable ≠ some id)
    {m : Sparse SegmentRecord} (hm : keysRise top low m = true)
    (hold : ∀ y, sparseGet k m = some y → y.presentTable ≠ some id) :
    claimsOf id (sparsePut k x m) = claimsOf id m := by
  induction m generalizing low with
  | nil => exact claimsOf_cons_none hx []
  | cons e rest ih =>
    obtain ⟨j, y⟩ := e
    simp only [keysRise, Bool.and_eq_true] at hm
    unfold sparsePut
    split
    · exact claimsOf_cons_none hx _
    · split
      · rename_i hkj
        subst hkj
        rw [claimsOf_cons_none hx, claimsOf_cons_none (hold y (by simp [sparseGet]))]
      · rename_i hkj
        refine claimsOf_cons_congr id (j, y) (ih hm.2 fun z hz => hold z ?_)
        simpa [sparseGet, Ne.symm hkj] using hz

/-- An entry without the id erased leaves the claims. -/
theorem claimsOf_erase {id : TableId} {k low top : Nat} {m : Sparse SegmentRecord}
    (hm : keysRise top low m = true) (hold : ∀ y, sparseGet k m = some y → y.presentTable ≠ some id) :
    claimsOf id (sparseErase k m) = claimsOf id m := by
  induction m generalizing low with
  | nil => rfl
  | cons e rest ih =>
    obtain ⟨j, y⟩ := e
    simp only [keysRise, Bool.and_eq_true] at hm
    unfold sparseErase
    split
    · rename_i hjk
      subst hjk
      have hnone := sparseGet_below (Nat.lt_succ_self j) hm.2
      rw [claimsOf_cons_none (hold y (by simp [sparseGet]))]
      exact ih hm.2 fun z hz => by rw [hnone] at hz; cases hz
    · rename_i hjk
      refine claimsOf_cons_congr id (j, y) (ih hm.2 fun z hz => hold z ?_)
      simpa [sparseGet, hjk] using hz

/-- A segment that names an id neither before nor after a write of its record leaves the claims on it. -/
theorem claimsOf_setRecord {t : TableMemory} (ht : t.Canonical) {id : TableId} {k : Nat} {x : SegmentRecord}
    (hx : x.presentTable ≠ some id) (hold : (t.record k).presentTable ≠ some id) :
    claimsOf id (t.setRecord k x).records = claimsOf id t.records := by
  have hwf := (TableMemory.canonical_iff.1 ht).2.1
  simp only [recordsWf, Bool.and_eq_true] at hwf
  have hget : ∀ y, sparseGet k t.records = some y → y.presentTable ≠ some id := fun y hy => by
    simpa [TableMemory.record, hy] using hold
  unfold TableMemory.setRecord sparseSet
  split
  · exact claimsOf_erase hwf.1 hget
  · exact claimsOf_put hx hwf.1 hget

/-! ### The four invariants -/

/-- The Directory true to the records, of Table Memory alone (R61). -/
def TableMemory.Listed (t : TableMemory) : Prop :=
  ∀ id : TableId, t.concerns id = false → t.directory[id] = buildEntry id t.records t.directory[id].bound

/-- The rewrite record true to the engine, the segment and the Staging Buffer, of Table Memory alone. -/
def TableMemory.InHand (t : TableMemory) : Prop :=
  (t.engine = .idle ↔ t.rewrite = none) ∧
    ∀ r, t.rewrite = some r →
      t.record r.segment = .busy ∧ r.newTable = t.staging.header.map Header.table

/-- What law 8 asks of the unit beside Table Memory's canonical form and the start-up scan. -/
structure TablesTrue (s : State) : Prop where
  bound : BoundSound s
  listed : s.memory.Listed
  inHand : s.memory.InHand
  inUse : TablesInUseSound s

theorem tablesSound_iff (s : State) :
    TablesSound s ↔ s.memory.Canonical ∧ ScanningSound s ∧ TablesTrue s :=
  ⟨fun ⟨hm, hb, hd, hr, hs, hu⟩ => ⟨hm, hs, hb, hd, hr, hu⟩,
    fun ⟨hm, hs, hb, hd, hr, hu⟩ => ⟨hm, hb, hd, hr, hs, hu⟩⟩

theorem TableMemory.usable_iff (t : TableMemory) (id : TableId) :
    t.usable id = true ↔ t.directory[id].state = .complete ∧ t.concerns id = false := by
  simp [TableMemory.usable]

theorem TableMemory.concerns_of_noRewrite {t : TableMemory} (h : t.rewrite = none) (id : TableId) :
    t.concerns id = false := by
  simp [TableMemory.concerns, h]

theorem TableMemory.concerns_eq_false {t : TableMemory} {r : Rewrite} (he : t.engine ≠ .idle)
    (hr : t.rewrite = some r) (id : TableId) :
    t.concerns id = false ↔ r.oldTable ≠ some id ∧ r.newTable ≠ some id := by
  simp [TableMemory.concerns, hr, he]

theorem lawUsable_of {s : State} {law : Law} (h : s.lawUsable law = true) {id : TableId}
    (hid : law.tableId = some id) : s.memory.usable id = true := by
  simpa [State.lawUsable, hid] using h

theorem TableMemory.InHand.noRewrite {t : TableMemory} (he : t.engine = .idle) (hr : t.rewrite = none) :
    t.InHand := ⟨by simp [he, hr], fun r h => by rw [hr] at h; cases h⟩

/-! ### Changes that leave the records and the rewrite as they are -/

/-- The records and the rewrite stand, the entries up to their bound-axis sets, and the Staging Buffer while a
rewrite is in hand. -/
structure TableMemory.Steady (t t' : TableMemory) : Prop where
  records : t'.records = t.records
  rewrite : t'.rewrite = t.rewrite
  idle : t'.engine = .idle ↔ t.engine = .idle
  staging : t.engine ≠ .idle → t'.staging = t.staging
  entry : ∀ id : TableId, ∃ b, t'.directory[id] = { t.directory[id] with bound := b }

section
variable {t t' t'' : TableMemory}

theorem TableMemory.Calm.steady (h : t.Calm t') : t.Steady t' :=
  ⟨h.records, h.rewrite, h.idle_iff, fun _ => h.staging, h.entry⟩

theorem TableMemory.Steady.trans (h : t.Steady t') (h' : t'.Steady t'') : t.Steady t'' := by
  refine ⟨h'.records.trans h.records, h'.rewrite.trans h.rewrite, h'.idle.trans h.idle,
    fun he => (h'.staging fun e => he (h.idle.1 e)).trans (h.staging he), fun id => ?_⟩
  obtain ⟨b, hb⟩ := h.entry id
  obtain ⟨b', hb'⟩ := h'.entry id
  exact ⟨b', by rw [hb', hb]⟩

theorem TableMemory.Steady.concerns (h : t.Steady t') (id : TableId) : t'.concerns id = t.concerns id := by
  unfold TableMemory.concerns
  rw [h.rewrite]
  simp only [ne_eq, h.idle]

theorem TableMemory.Steady.usable (h : t.Steady t') (id : TableId) : t'.usable id = t.usable id := by
  obtain ⟨b, hb⟩ := h.entry id
  unfold TableMemory.usable
  rw [h.concerns, hb]

theorem TableMemory.Listed.steady (h : t.Steady t') (hl : t.Listed) : t'.Listed := by
  intro id hid
  obtain ⟨b, hb⟩ := h.entry id
  rw [h.concerns] at hid
  rw [hb, h.records]
  exact (congrArg (fun e : DirEntry => { e with bound := b }) (hl id hid)).trans
    (buildEntry_rebound id t.records _ b)

theorem TableMemory.InHand.steady (h : t.Steady t') (hr : t.InHand) : t'.InHand := by
  refine ⟨by rw [h.idle, h.rewrite]; exact hr.1, fun r hrw => ?_⟩
  rw [h.rewrite] at hrw
  have he : t.engine ≠ .idle := fun e => by rw [hr.1.1 e] at hrw; cases hrw
  unfold TableMemory.record
  rw [h.records, h.staging he]
  exact hr.2 r hrw

end

/-- A table in use stays in use where every axis that is outside OFF was so before, or has a usable law. -/
theorem TablesTrue.steady {s t : State} (hm : s.memory.Steady t.memory)
    (hb : ∀ id i, inSet (t.entry id).bound i = inSet (s.entry id).bound i)
    (hl : ∀ i, (t.axis i).law = (s.axis i).law)
    (ho : ∀ i, (t.axis i).state ≠ .off → (s.axis i).state ≠ .off ∨ s.lawUsable (s.axis i).law = true)
    (h : TablesTrue s) : TablesTrue t := by
  refine ⟨fun id i => ?_, h.listed.steady hm, h.inHand.steady hm, fun i id hoff hid => ?_⟩
  · rw [hb, hl]; exact h.bound id i
  · rw [hm.usable]
    rw [hl] at hid
    exact (ho i hoff).elim (fun h' => h.inUse i id h' hid) fun h' => lawUsable_of h' hid

/-- The same where the Directory and the power states stand. -/
theorem TablesTrue.stand {s t : State} (hm : s.memory.Steady t.memory)
    (hd : t.memory.directory = s.memory.directory) (hl : ∀ i, (t.axis i).law = (s.axis i).law)
    (ho : ∀ i, (s.axis i).state = .off → (t.axis i).state = .off) (h : TablesTrue s) : TablesTrue t :=
  h.steady hm (fun _ _ => by unfold State.entry; rw [hd]) hl
    fun i hi => .inl fun hs => hi (ho i hs)

theorem TablesTrue.portFrame {s t : State} (hp : PortFrame s t) (h : TablesTrue s) : TablesTrue t :=
  h.stand hp.memory.steady hp.directory (fun i => (hp.axes i).law)
    fun i hi => (hp.axes i).state.trans hi

theorem TablesTrue.congr {s t : State} (hm : t.memory = s.memory) (ha : ∀ i, t.axis i = s.axis i)
    (h : TablesTrue s) : TablesTrue t :=
  h.stand (by rw [hm]; exact (TableMemory.Calm.refl _).steady) (by rw [hm]) (fun i => by rw [ha])
    fun i hi => by rw [ha]; exact hi

/-! ### Acts -/

theorem TablesTrue.setAxis {s : State} {i : AxisIdx} {b : Axis} (hl : b.law = (s.axis i).law)
    (ho : b.state ≠ .off → (s.axis i).state ≠ .off ∨ s.lawUsable (s.axis i).law = true)
    (h : TablesTrue s) : TablesTrue (s.setAxis i b) := by
  refine TablesTrue.steady (s := s) (TableMemory.Calm.refl _).steady (fun _ _ => rfl) (fun j => ?_)
    (fun j => ?_) h <;> rw [State.axis_setAxis] <;> split
  · rename_i hj; exact hj ▸ hl
  · rfl
  · rename_i hj; exact hj ▸ ho
  · exact .inl

/-- A law bound to an axis: the bound-axis sets follow it, and its table is usable if the axis is outside
OFF (R21, R62). -/
theorem TablesTrue.bind {s : State} {i : AxisIdx} {law : Law}
    (hu : (s.axis i).state ≠ .off → s.lawUsable law = true) (h : TablesTrue s) :
    TablesTrue ({ s with memory := s.memory.rebind i (s.axis i).law law }.onAxis i (Axis.bindLaw law)) := by
  have hm := (calm_rebind i (s.axis i).law law s.memory).steady
  have hax : ∀ j, ({ s with memory := s.memory.rebind i (s.axis i).law law }.onAxis i
      (Axis.bindLaw law)).axis j = if i = j then (s.axis i).bindLaw law else s.axis j :=
    fun j => State.axis_setAxis _ _ _ _
  have hnew := Axis.abandons_bindLaw law (s.axis i)
  refine ⟨fun id j => ?_, h.listed.steady hm, h.inHand.steady hm, fun j id hoff hid => ?_⟩
  · obtain ⟨b, hb, hin⟩ := rebind_entry i (s.axis i).law law s.memory id
    have hold : inSet s.memory.directory[id].bound j = true ↔ (s.axis j).law.tableId = some id :=
      h.bound id j
    have hbound : inSet ((s.memory.rebind i (s.axis i).law law).directory[id]).bound j = inSet b j := by
      rw [hb]
    refine (iff_of_eq (congrArg (· = true) hbound)).trans ?_
    rw [hin, hax]
    split
    · rename_i hij
      subst hij
      simp only [Bool.or_eq_true, Bool.and_eq_true, Bool.not_eq_true', decide_eq_true_eq,
        decide_eq_false_iff_not, hold]
      exact ⟨fun h => h.elim (fun h => h) fun h => absurd h.1 h.2, .inl⟩
    · exact hold
  · refine (hm.usable id).trans ?_
    rw [hax] at hoff hid
    split at hoff
    · rename_i hij
      rw [if_pos hij] at hid
      exact lawUsable_of (hu fun hs => hoff (hnew.off hs)) hid
    · rename_i hij
      rw [if_neg hij] at hid
      exact h.inUse j id hoff hid

theorem tablesTrue_act {o : Prop} {s t : State} (h : Act o s t) (hs : TablesTrue s) : TablesTrue t := by
  cases h with
  | axes v hv =>
    exact TablesTrue.stand (s := s) (TableMemory.Calm.refl _).steady rfl (fun i => (hv i).law)
      (fun i => (hv i).off) hs
  | wake i b _ hl _ _ _ hu => exact hs.setAxis hl fun _ => .inr (hl ▸ hu)
  | abandon i b hb hl => exact hs.setAxis hl fun hoff => .inl fun h => hoff (hb.off h)
  | bind i law _ hu => exact hs.bind hu
  | port _ h => exact hs.portFrame h.toPortFrame
  | _ => exact TablesTrue.congr (s := s) rfl (fun _ => rfl) hs

theorem tablesTrue_run {o : Prop} {s t : State} (h : Run o s t) (hs : TablesTrue s) : TablesTrue t := by
  induction h with
  | refl => exact hs
  | tail _ h ih => exact tablesTrue_act h ih

/-! ### A rewrite accepted -/

/-- A table of an axis outside OFF is not the one a COMMIT's check 3 has passed (R67). -/
theorem TablesTrue.notBound {s : State} (h : TablesTrue s) {x : Option TableId}
    (hx : s.boundOutsideOff x = false) {i : AxisIdx} {id : TableId} (hoff : (s.axis i).state ≠ .off)
    (hid : (s.axis i).law.tableId = some id) : x ≠ some id := by
  rintro rfl
  have hall : ∀ i : AxisIdx, i ∈ allAxes := by decide
  simp only [State.boundOutsideOff, List.any_eq_false, Bool.and_eq_true, decide_eq_true_eq,
    not_and, not_not] at hx
  exact hoff (hx i (hall i) ((h.bound id i).2 hid))

theorem TablesTrue.accept {s : State} (hm : s.memory.Canonical) (h : TablesTrue s) {segment : Nat}
    {erase : Bool} (hc : commitRefusal segment (some erase) s = none) :
    TablesTrue { s with memory := s.memory.accept segment erase } := by
  obtain ⟨-, he, hold, hnew, -⟩ := commit_checks s hc
  have hnone := h.inHand.1.1 he
  have hconcerns : ∀ id, (s.memory.accept segment erase).concerns id = false ↔
      (s.memory.record segment).presentTable ≠ some id ∧
        s.memory.staging.header.map Header.table ≠ some id := fun id =>
    TableMemory.concerns_eq_false (t := s.memory.accept segment erase)
      (r := ⟨segment, erase, _, _⟩) (by simp [TableMemory.accept]) rfl id
  refine ⟨h.bound, fun id hid => ?_, ⟨⟨nofun, nofun⟩, ?_⟩,
    fun i id hoff hid => ?_⟩
  · have hclaims : claimsOf id (s.memory.accept segment erase).records = claimsOf id s.memory.records :=
      claimsOf_setRecord (x := .busy) hm (by simp [SegmentRecord.presentTable])
        ((hconcerns id).1 hid).1
    refine (h.listed id (TableMemory.concerns_of_noRewrite hnone id)).trans ?_
    exact (buildEntry_congr hclaims _).symm
  · rintro _ ⟨⟩
    exact ⟨TableMemory.record_setRecord_same _ segment .busy, rfl⟩
  · have huse := (TableMemory.usable_iff _ _).1 (h.inUse i id hoff hid)
    refine (TableMemory.usable_iff _ _).2 ⟨huse.1, (hconcerns id).2 ⟨?_, ?_⟩⟩
    · exact h.notBound hold hoff hid
    · exact h.notBound hnew hoff hid

/-! ### A rewrite ended or cut off -/

/-- The entries of a rewrite's old and new ids are built anew, and no other (R71). -/
theorem rebuildPair_entry (old new : Option TableId) (t : TableMemory) (id : TableId) :
    (t.rebuildPair old new).directory[id] =
      if old = some id ∨ new = some id then buildEntry id t.records t.directory[id].bound
      else t.directory[id] := by
  cases old with
  | none =>
    cases new with
    | none => simp [TableMemory.rebuildPair]
    | some y =>
      simp only [TableMemory.rebuildPair, TableMemory.rebuild, directory_set, reduceCtorEq,
        Option.some.injEq, false_or]
      split
      · rename_i hy; rw [hy]
      · rfl
  | some x =>
    cases new with
    | none =>
      simp only [TableMemory.rebuildPair, TableMemory.rebuild, directory_set, reduceCtorEq,
        Option.some.injEq, or_false]
      split
      · rename_i hx; rw [hx]
      · rfl
    | some y =>
      simp only [TableMemory.rebuildPair, TableMemory.rebuild, directory_set, Option.some.injEq]
      by_cases hy : y = id
      · subst hy
        by_cases hx : x = y
        · subst hx; simp [buildEntry_bound]
        · simp [hx]
      · by_cases hx : x = id
        · subst hx; simp [hy]
        · simp [hx, hy]

/-- After a rewrite every entry is true to the records: those of its two ids are built anew, and on the others
its segment makes no claim. -/
theorem listed_rewritten {t : TableMemory} (hc : t.Canonical) (hl : t.Listed) (hi : t.InHand)
    (he : t.engine ≠ .idle) {r : Rewrite} (hr : t.rewrite = some r) {x : SegmentRecord}
    (hx : x.presentTable = none ∨ x.presentTable = r.newTable) (id : TableId) :
    (if r.oldTable = some id ∨ r.newTable = some id then
      buildEntry id (t.setRecord r.segment x).records t.directory[id].bound else t.directory[id]) =
      buildEntry id (t.setRecord r.segment x).records t.directory[id].bound := by
  split
  · rfl
  · rename_i hid
    rw [not_or] at hid
    have hold : (t.record r.segment).presentTable ≠ some id := by
      rw [(hi.2 r hr).1]; simp [SegmentRecord.presentTable]
    have hnew : x.presentTable ≠ some id := by
      rcases hx with e | e <;> rw [e]
      · simp
      · exact hid.2
    rw [buildEntry_congr (claimsOf_setRecord hc hnew hold)]
    exact hl id ((TableMemory.concerns_eq_false he hr id).2 hid)

/-- The Directory at the end of a rewrite (R71). -/
theorem closeRewrite_entry (outcome : RewriteOutcome) (record : SegmentRecord) (image : SegmentImage)
    (r : Rewrite) (s : State) (id : TableId) :
    (closeRewrite outcome record image r s).memory.directory[id] =
      if r.oldTable = some id ∨ r.newTable = some id then
        buildEntry id (s.memory.setRecord r.segment record).records s.memory.directory[id].bound
      else s.memory.directory[id] :=
  rebuildPair_entry r.oldTable r.newTable
    { (s.memory.setRecord r.segment record).setImage r.segment image with
      lastOutcome := some (outcome, r.segment), staging := Staging.empty, engine := .idle
      rewrite := none } id

theorem TablesTrue.close {s : State} (hm : s.memory.Canonical) (h : TablesTrue s)
    {record : SegmentRecord} {image : SegmentImage} {r : Rewrite} (he : s.memory.engine ≠ .idle)
    (hr : s.memory.rewrite = some r) (hc : Closing s record image) (outcome : RewriteOutcome) :
    TablesTrue (closeRewrite outcome record image r s) := by
  obtain ⟨-, hrecords, hnone⟩ := closeRewrite_memory outcome record image r s
  have hentry := closeRewrite_entry outcome record image r s
  have hbuilt : ∀ id : TableId, (closeRewrite outcome record image r s).memory.directory[id] =
      buildEntry id (s.memory.setRecord r.segment record).records s.memory.directory[id].bound := fun id =>
    (hentry id).trans (listed_rewritten hm h.listed h.inHand he hr
      (by rw [(h.inHand.2 r hr).2]; exact hc.table) id)
  have hbound : ∀ id : TableId, (closeRewrite outcome record image r s).memory.directory[id].bound =
      s.memory.directory[id].bound := fun id => by rw [hbuilt, buildEntry_bound]
  refine ⟨fun id i => ?_, fun id _ => ?_,
    .noRewrite (closeRewrite_engine outcome record image r s).1 hnone, fun i id hoff hid => ?_⟩
  · unfold State.entry
    rw [hbound]
    exact h.bound id i
  · rw [hbound, hrecords]; exact hbuilt id
  · obtain ⟨hcomplete, hfree⟩ := (TableMemory.usable_iff _ _).1 (h.inUse i id hoff hid)
    refine (TableMemory.usable_iff _ _).2 ⟨?_, TableMemory.concerns_of_noRewrite hnone id⟩
    rw [hentry, if_neg (not_or.2 ((TableMemory.concerns_eq_false he hr id).1 hfree))]
    exact hcomplete

/-! ### Events of the engine -/

/-- A phase that stops leaves the records, the rewrite and the Directory. -/
theorem stopPhase_steady (s : State) : s.memory.Steady (stopPhase s).memory ∧
    (stopPhase s).memory.directory = s.memory.directory := by
  rcases stopPhase_cases s with h | ⟨r, -, -, h⟩ <;> rw [h]
  · exact ⟨(TableMemory.Calm.refl _).steady, rfl⟩
  · exact ⟨⟨rfl, rfl, Iff.rfl, fun _ => rfl, fun _ => ⟨_, rfl⟩⟩, rfl⟩

/-- The engine goes from one state of a rewrite to another. -/
theorem steady_setEngine {t : TableMemory} {e : EngineState} (ht : t.engine ≠ .idle) (he : e ≠ .idle) :
    t.Steady { t with engine := e } :=
  ⟨rfl, rfl, by simp [ht, he], fun _ => rfl, fun _ => ⟨_, rfl⟩⟩

theorem TablesTrue.stopped {s : State} (h : TablesTrue s) {e : EngineState}
    (hs : s.memory.engine ≠ .idle) (he : e ≠ .idle) : TablesTrue ((stopPhase s).setEngine e) := by
  obtain ⟨hm, hd⟩ := stopPhase_steady s
  have hstop : (stopPhase s).memory.engine ≠ .idle := by rw [(stopPhase_engine s).1]; exact hs
  refine TablesTrue.stand (s := s) (hm.trans (steady_setEngine hstop he)) hd (fun i => ?_) (fun i => ?_) h
  · exact congrArg Axis.law (stopPhase_axis s i)
  · exact fun hi => (congrArg Axis.state (stopPhase_axis s i)).trans hi

theorem EngineState.afterAcknowledge_ne_idle {e : EngineState} (h : e.working = true) :
    e.afterAcknowledge ≠ .idle := by
  cases e <;> simp_all [EngineState.working, EngineState.afterAcknowledge]

theorem tablesTrue_memoryAct {idle : Prop} {s t : State} (h : MemoryAct idle s t)
    (hm : s.memory.Canonical) (hs : TablesTrue s) : TablesTrue t := by
  cases h with
  | stage g _ he =>
    exact TablesTrue.stand (s := s) ⟨rfl, rfl, Iff.rfl, fun h => absurd he h, fun _ => ⟨_, rfl⟩⟩ rfl
      (fun _ => rfl) (fun _ => id) hs
  | accept segment erase _ hc => exact hs.accept hm hc
  | abort he => exact hs.stopped he (by simp)
  | acknowledge he =>
    have hstop := hs.stopped (working_ne_idle he) (EngineState.afterAcknowledge_ne_idle he)
    exact ((hstop.portFrame (portStep_setSuspendRequest _ false).toPortFrame).portFrame
      (portStep_resumeIfIdle _).toPortFrame).portFrame (portFrame_grantRead _)
  | program r he hr hk =>
    refine TablesTrue.stand (s := s) ⟨rfl, rfl, ?_, fun _ => rfl, fun _ => ⟨_, rfl⟩⟩ rfl
      (fun _ => rfl) (fun _ => id) hs
    simp [State.setEngine, he]
  | close outcome record image r he hr hc =>
    exact (hs.close hm he hr hc outcome).portFrame (portFrame_grantRead _)

/-! ### Resets and the start-up scan -/

theorem tablesTrue_of_off {t : State} (ha : ∀ i, (t.axis i).state = .off)
    (hl : ∀ i, (t.axis i).law.tableId = none) (hb : ∀ id : TableId, t.memory.directory[id].bound = 0)
    (hd : ∀ id : TableId, t.memory.directory[id] = buildEntry id t.memory.records 0)
    (he : t.memory.engine = .idle) (hr : t.memory.rewrite = none) : TablesTrue t := by
  refine ⟨fun id i => ?_, fun id _ => ?_, .noRewrite he hr, fun i _ hoff => absurd (ha i) hoff⟩
  · unfold State.entry
    rw [hb, hl]
    simp [inSet]
  · rw [hb]; exact hd id

theorem Fresh.tables {t : State} (h : Fresh t) : TablesTrue t := by
  have habsent : ∀ id : TableId, t.memory.directory[id] = DirEntry.absent := fun id => by
    rw [h.memory]; simp [TableMemory.powerOn]
  refine tablesTrue_of_off (fun i => by rw [h.axes]; rfl) (fun i => by rw [h.axes]; rfl)
    (fun id => by rw [habsent]; rfl) (fun id => ?_) (by rw [h.memory]; rfl) (by rw [h.memory]; rfl)
  rw [habsent, h.memory]
  rfl

/-- The entries a UNIT_RESET leaves: those of the cut-off rewrite built anew, and all without a bound axis
(R78). -/
theorem unitReset_entry {t : TableMemory} (hc : t.Canonical) (hl : t.Listed) (hi : t.InHand)
    (id : TableId) : t.unitReset.directory[id] = buildEntry id t.unitReset.records 0 := by
  have hmap : ∀ v : Vector DirEntry 64, (v.map (fun e => { e with bound := 0 }))[id] =
      { v[id] with bound := 0 } := fun v => by simp
  by_cases he : t.engine = .idle
  · have hset : t.unitReset.directory[id] = { t.directory[id] with bound := 0 } ∧
        t.unitReset.records = t.records := by
      unfold TableMemory.unitReset
      rw [he]
      exact ⟨hmap _, rfl⟩
    have hbuilt := hl id (TableMemory.concerns_of_noRewrite (hi.1.1 he) id)
    rw [hset.1, hset.2, hbuilt, buildEntry_rebound]
  · obtain ⟨r, hr⟩ := Option.ne_none_iff_exists'.1 fun h => he (hi.1.2 h)
    have hset : t.unitReset.directory[id] =
          { ((t.setRecord r.segment .torn).rebuildPair r.oldTable r.newTable).directory[id] with
            bound := 0 } ∧
        t.unitReset.records = (t.setRecord r.segment .torn).records := by
      unfold TableMemory.unitReset
      split
      · contradiction
      · rename_i hnone _; rw [hnone] at hr; cases hr
      · rename_i r' hr' _
        cases hr.symm.trans hr'
        exact ⟨hmap _, by cases r.oldTable <;> cases r.newTable <;> rfl⟩
    have hbuilt := (rebuildPair_entry r.oldTable r.newTable (t.setRecord r.segment .torn) id).trans
      (listed_rewritten hc hl hi he hr (.inl rfl) id)
    rw [hset.1, hset.2, hbuilt, buildEntry_rebound]

theorem TablesTrue.unitReset {s : State} (hm : s.memory.Canonical) (h : TablesTrue s)
    (straps : BitVec 5) : TablesTrue (Machine.unitReset straps s) := by
  have hsteady := (stopPhase_steady s).1
  have hentry : ∀ id : TableId, (Machine.unitReset straps s).memory.directory[id] =
      buildEntry id (Machine.unitReset straps s).memory.records 0 :=
    unitReset_entry (canonical_stopPhase hm) (h.listed.steady hsteady) (h.inHand.steady hsteady)
  obtain ⟨-, -, hnone, hidle, -⟩ := memory_unitReset (Machine.stopPhase s).memory
  exact tablesTrue_of_off (fun i => by rw [unitReset_axis]; rfl) (fun i => by rw [unitReset_axis]; rfl)
    (fun id => by rw [hentry, buildEntry_bound]) hentry hidle hnone

/-- The scan builds every entry from the records it makes (R59, R61). -/
theorem scan_entry (t : TableMemory) (id : TableId) :
    t.scan.directory[id] = buildEntry id t.scan.records t.directory[id].bound := by
  simp [TableMemory.scan]

theorem TablesTrue.scan {s : State} (hscan : s.memory.startUp = .scanning) (hs : ScanningSound s)
    (h : TablesTrue s) {f : Axis → Axis} (hf : ∀ a, (f a).law = a.law ∧ (f a).state = a.state) :
    TablesTrue ({ s with memory := s.memory.scan }.mapAxes f) := by
  obtain ⟨-, -, hoff, hidle⟩ := hs hscan
  have hax : ∀ i, ({ s with memory := s.memory.scan }.mapAxes f).axis i = f (s.axis i) :=
    fun i => State.axis_mapAxes _ _ _
  have hbound : ∀ id : TableId, s.memory.scan.directory[id].bound = s.memory.directory[id].bound :=
    fun id => by rw [scan_entry, buildEntry_bound]
  refine ⟨fun id i => ?_, fun id _ => ?_, .noRewrite hidle (h.inHand.1.1 hidle), fun i id hi _ => ?_⟩
  · rw [hax, (hf _).1]
    exact (iff_of_eq (congrArg (inSet · i = true) (hbound id))).trans (h.bound id i)
  · exact (scan_entry s.memory id).trans
      (congrArg (buildEntry id s.memory.scan.records) (hbound id).symm)
  · rw [hax, (hf _).2] at hi
    exact absurd (hoff i) hi

/-! ### Every change -/

theorem tablesTrue_change {idle released : Prop} {s t : State} (h : Change idle released s t)
    (hm : s.memory.Canonical) (hscan : ScanningSound s) (hs : TablesTrue s) : TablesTrue t := by
  cases h with
  | run h => exact tablesTrue_run h hs
  | memory h => exact tablesTrue_memoryAct h hm hs
  | begin => exact hs.congr (beginUpdate_rest s).1 (beginUpdate_axis s)
  | clear f =>
    exact TablesTrue.stand (s := s) (calm_stalls _ _).steady rfl (fun i => by rw [cleared_axis])
      (fun i => by rw [cleared_axis]; exact id) hs
  | carry i => exact hs.setAxis rfl .inl
  | link h _ => exact hs.congr (by rw [h]; rfl) fun i => by rw [h]; rfl
  | reset straps power => exact (fresh_resetBlocks straps power s).tables
  | unitReset straps => exact hs.unitReset hm straps
  | scan h => exact hs.scan h hscan fun _ => ⟨rfl, rfl⟩
  | _ => exact TablesTrue.congr (s := s) rfl (fun _ => rfl) hs

theorem keptByStep_tables : KeptByStep TablesSound := keptByStep fun idle released s t h hs => by
  obtain ⟨hm, hscan, htrue⟩ := (tablesSound_iff s).1 hs
  exact (tablesSound_iff t).2
    ⟨canonical_change h hm, scanningSound_change h hscan, tablesTrue_change h hm hscan htrue⟩

/-- Settles O58: Table Memory's form and its markers are each kept alone, law 8 together with the canonical form
and the start-up scan. -/
theorem everyStepKeepsTheTablesInUse : Obligations.EveryStepKeepsTheTablesInUse :=
  ⟨keptByStep_memory, keptByStep_marker, keptByStep_tables⟩

/-! ### What a table in use lists -/

/-- A COMPLETE entry lists claims on its id, at least one (R61). -/
theorem complete_segments {id : TableId} {m : Sparse SegmentRecord} {b : AxisSet}
    (h : (buildEntry id m b).state = .complete) :
    ∃ listed : List Claim, listed ≠ [] ∧ (∀ c ∈ listed, c ∈ claimsOf id m) ∧
      (buildEntry id m b).segments = listed.map (fun c => (c.segment, c.header.count)) := by
  unfold buildEntry at h ⊢
  dsimp only at h ⊢
  split at h
  · cases h
  · rename_i hne
    rw [if_neg hne]
    split at h
    · cases h
    · rename_i hclash
      rw [if_neg hclash]
      split at h
      · cases h
      · rename_i f _
        split at h
        · rename_i hfill
          split at h
          · rename_i hrise
            refine ⟨(List.range (f + 1)).filterMap (claimAt (claimsOf id m)), ?_, fun c hc => ?_, ?_⟩
            · have hzero : (claimAt (claimsOf id m) 0).isSome = true := by
                simp only [sequencesFill, Bool.and_eq_true, List.all_eq_true, List.mem_range] at hfill
                exact hfill.1 0 (Nat.succ_pos f)
              obtain ⟨c, hc⟩ := Option.isSome_iff_exists.1 hzero
              exact List.ne_nil_of_mem
                (List.mem_filterMap.2 ⟨0, List.mem_range.2 (Nat.succ_pos f), hc⟩)
            · obtain ⟨q, -, hq⟩ := List.mem_filterMap.1 hc
              exact List.mem_of_find?_eq_some hq
            · simp only [hfill, hrise, if_true]
          · cases h
        · cases h

/-- A claim is a VALID segment of the id (R61). -/
theorem record_of_claim {t : TableMemory} (ht : t.Canonical) {id : TableId} {c : Claim}
    (h : c ∈ claimsOf id t.records) :
    t.record c.segment = .valid c.header c.first c.last ∧ c.header.table = id := by
  obtain ⟨e, he, hc⟩ := List.mem_filterMap.1 h
  obtain ⟨hsegment, hrecord, hid⟩ := claimIn_eq_some hc
  have hwf := (TableMemory.canonical_iff.1 ht).2.1
  simp only [recordsWf, Bool.and_eq_true] at hwf
  refine ⟨?_, hid⟩
  rw [TableMemory.record, ← hsegment, sparseGet_of_mem hwf.1 he, hrecord]
  rfl

/-- Settles O60: a usable table's entry is the one the records build, and that lists only claims. -/
theorem tablesInUseListOnlyValidSegments : Obligations.TablesInUseListOnlyValidSegments := by
  intro s i id hs hoff hid
  obtain ⟨hm, -, htrue⟩ := (tablesSound_iff s).1 hs
  obtain ⟨hcomplete, hfree⟩ := (TableMemory.usable_iff _ _).1 (htrue.inUse i id hoff hid)
  have hentry : s.entry id = buildEntry id s.memory.records (s.entry id).bound := htrue.listed id hfree
  have hstate : (s.entry id).state = .complete := hcomplete
  rw [hentry] at hstate ⊢
  obtain ⟨listed, hne, hclaims, hsegments⟩ := complete_segments hstate
  rw [hsegments]
  refine ⟨hstate, by simpa using hne, fun segment count hmem => ?_⟩
  obtain ⟨c, hc, heq⟩ := List.mem_map.1 hmem
  cases heq
  obtain ⟨hrecord, htable⟩ := record_of_claim hm (hclaims c hc)
  exact ⟨c.header, c.first, c.last, hrecord, htable, rfl⟩

/-! ### The state right after reset -/

/-- Settles O59, by the invariants of every unit right after a power-on reset. -/
theorem resetStateMeetsTheLaws : Obligations.ResetStateMeetsTheLaws := by
  have hf := fresh_reset
  have haxes : ∀ {P : Axis → Prop}, P Axis.reset → EveryAxis P State.reset := fun h i => by
    rw [hf.axes]; exact h
  have hm : State.reset.memory.Canonical := ⟨rfl, nofun⟩
  refine ⟨hm, haxes motionSound_reset, haxes limits_reset.1, haxes limits_reset.2, haxes (Nat.zero_le 8),
    ⟨Nat.zero_le _, .nil⟩, fun i _ _ _ _ h => ?_, hf.reads,
    (tablesSound_iff _).2 ⟨hm, hf.scanning, hf.tables⟩, LinkPort.sound_reset 0,
    ⟨fun k h => ?_, nofun⟩, nofun, hf.grants⟩
  · rw [hf.axes] at h; cases h
  · cases h

end Sys2Proof.Machine
end

section
/-! The Sky Clock (spec/01): its requests, its ramp and its lanes at a Lane Update, with the statements about
them (O9, O10, O11, O15). -/

namespace Sys2Proof.Machine

/-! ### Clamping as a maximum of a minimum -/

theorem clamp_eq_max_min {a b : Int} (h : a ≤ b) (x : Int) : clamp x a b = max a (min b x) := by
  unfold clamp
  split_ifs <;> omega

theorem sat64_eq_max_min (x : Int) : sat64 x = max (-2 ^ 63) (min (2 ^ 63 - 1) x) :=
  clamp_eq_max_min (by decide) x

/-- Saturation changes a value exactly outside the signed 64-bit range. -/
theorem sat64_ne_iff (x : Int) : sat64 x ≠ x ↔ x < -2 ^ 63 ∨ 2 ^ 63 - 1 < x := by
  rw [sat64_eq_max_min]
  omega

/-! ### The ramp (R12) -/

/-- An advancing update leaves the rate and the ramp its step gives. -/
theorem SkyClock.advance_rate (k : SkyClock) : k.advance.rate = k.stepRamp.rate := rfl

theorem SkyClock.advance_ramp (k : SkyClock) : k.advance.ramp = k.stepRamp.ramp := rfl

/-- The ramp's step changes the rate and the ramp alone. -/
theorem SkyClock.stepRamp_frame (k : SkyClock) :
    k.stepRamp = { k with rate := k.stepRamp.rate, ramp := k.stepRamp.ramp } := by
  unfold SkyClock.stepRamp
  split <;> rfl

theorem SkyClock.stepRamp_of_some {k : SkyClock} {r : Ramp} (h : k.ramp = some r) :
    k.stepRamp.rate = r.next.1 ∧ k.stepRamp.ramp = r.next.2 := by
  simp [SkyClock.stepRamp, h]

theorem SkyClock.stepRamp_of_none {k : SkyClock} (h : k.ramp = none) : k.stepRamp = k := by
  simp [SkyClock.stepRamp, h]

/-- A step before the last goes on with the ramp. -/
theorem Ramp.next_of_lt {r : Ramp} (h : r.taken + 1 < r.length) :
    r.next = (r.startRate + Int.tdiv ((r.endRate - r.startRate) * (r.taken + 1)) r.length,
      some { r with taken := r.taken + 1 }) := by
  simp [Ramp.next, h, truncQuot]

/-- The last step gives the end rate and ends the ramp. -/
theorem Ramp.next_of_le {r : Ramp} (h : r.length ≤ r.taken + 1) : r.next = (r.endRate, none) := by
  simp [Ramp.next, Nat.not_lt.2 h]

/-- After `n` advancing updates, fewer than it takes, a ramp has taken `n` steps. -/
theorem ramp_of_iterate_advance {k : SkyClock} {start stop : Int} {length n : Nat}
    (h : k.ramp = some { startRate := start, endRate := stop, length := length, taken := 0 })
    (hn : n < max length 1) :
    (SkyClock.advance^[n] k).ramp =
      some { startRate := start, endRate := stop, length := length, taken := n } := by
  induction n with
  | zero => exact h
  | succ n ih =>
    have hlt : n + 1 < length := by omega
    rw [Function.iterate_succ_apply', SkyClock.advance_ramp,
      (SkyClock.stepRamp_of_some (ih (by omega))).2, Ramp.next_of_lt hlt]

/-- The rate and the ramp the next of them leaves. -/
theorem iterate_advance_succ {k : SkyClock} {start stop : Int} {length n : Nat}
    (h : k.ramp = some { startRate := start, endRate := stop, length := length, taken := 0 })
    (hn : n < max length 1) :
    ((SkyClock.advance^[n + 1] k).rate, (SkyClock.advance^[n + 1] k).ramp) =
      Ramp.next { startRate := start, endRate := stop, length := length, taken := n } := by
  rw [Function.iterate_succ_apply', SkyClock.advance_rate, SkyClock.advance_ramp]
  exact Prod.ext_iff.2 (SkyClock.stepRamp_of_some (ramp_of_iterate_advance h hn))

/-! ### The lanes at a Lane Update (R6, R7) -/

/-- The update is an advancing one (R6). -/
def SkyClock.Advancing (k : SkyClock) : Prop :=
  k.pendingSky = none ∧ k.state = .running ∧ k.holdInForce = false

theorem SkyClock.advancing_iff (k : SkyClock) :
    k.Advancing ↔ k.pendingSky = none ∧ k.state = .running ∧ k.softHold = false ∧
      k.holdLine.active = false := by
  simp [SkyClock.Advancing, SkyClock.holdInForce]

theorem SkyClock.settleSky_of_advancing {k : SkyClock} (h : k.Advancing) :
    k.settleSky = (k.advance, false) := by
  obtain ⟨hnone, hrun, hhold⟩ := h
  simp [SkyClock.settleSky, hnone, hrun, hhold]

theorem SkyClock.settleSky_of_pending {k : SkyClock} {x : Int} (h : k.pendingSky = some x) :
    k.settleSky = ({ k with skyLane := x, pendingSky := none }, true) := by
  simp [SkyClock.settleSky, h]

theorem SkyClock.settleSky_of_standing {k : SkyClock} (hnone : k.pendingSky = none)
    (h : ¬k.Advancing) : k.settleSky = (k, false) := by
  have hstand : ¬(k.state = .running ∧ k.holdInForce = false) := fun hr => h ⟨hnone, hr⟩
  simp only [SkyClock.settleSky, hnone, hstand, if_false]

/-- An update that does not advance may apply a pending Sky Set, and leaves the rest of the clock. -/
theorem SkyClock.settleSky_of_not_advancing {k : SkyClock} (h : ¬k.Advancing) :
    k.settleSky.1 = { k with skyLane := k.pendingSky.getD k.skyLane, pendingSky := none } := by
  cases hp : k.pendingSky with
  | none =>
    rw [SkyClock.settleSky_of_standing hp h]
    cases k
    cases hp
    rfl
  | some x => rw [SkyClock.settleSky_of_pending hp]; rfl

/-- The Show lane's settling changes the Show lane and its pending set alone. -/
theorem SkyClock.settleShow_frame (k : SkyClock) :
    k.settleShow.1 =
      { k with showLane := k.settleShow.1.showLane, pendingShow := none } := by
  unfold SkyClock.settleShow
  cases hp : k.pendingShow with
  | none =>
    cases k
    cases hp
    dsimp only
    split <;> rfl
  | some x => rfl

/-- The Show lane by its table (R7). -/
theorem SkyClock.settleShow_of_pending {k : SkyClock} {x : Int} (h : k.pendingShow = some x) :
    k.settleShow.1.showLane = x := by
  simp [SkyClock.settleShow, h]

theorem SkyClock.settleShow_of_none {k : SkyClock} (h : k.pendingShow = none) :
    k.settleShow.1.showLane =
      if k.state = .stopped ∨ ((k.softHold ∨ k.holdLine.active) ∧ k.settings.showHaltsOnHold) then
        k.showLane
      else max (-2 ^ 63) (min (2 ^ 63 - 1) (k.showLane + 1000)) := by
  rw [← sat64_eq_max_min]
  simp only [SkyClock.settleShow, h, SkyClock.holdInForce, Bool.or_eq_true]
  split <;> rfl

/-- The Show lane settles over the Sky Clock that the Sky lane's settling leaves; all but the Show lane and
its set is from there (R2). -/
theorem SkyClock.settle_frame (k : SkyClock) :
    k.settle.1 =
      { k.settleSky.1 with showLane := k.settle.1.showLane, pendingShow := none } :=
  SkyClock.settleShow_frame k.settleSky.1

/-- The mark of a lane stands for its pending set (R8). -/
theorem SkyClock.settleSky_mark (k : SkyClock) : k.settleSky.2 = true ↔ k.pendingSky ≠ none := by
  unfold SkyClock.settleSky
  split
  · simp [*]
  · split <;> simp [*]

theorem SkyClock.settleShow_mark (k : SkyClock) : k.settleShow.2 = true ↔ k.pendingShow ≠ none := by
  unfold SkyClock.settleShow
  split
  · simp [*]
  · split <;> simp [*]

/-- The Sky lane's settling keeps what the Show lane's reads. -/
theorem SkyClock.settleSky_frame (k : SkyClock) :
    k.settleSky.1 =
      { k with
        skyLane := k.settleSky.1.skyLane, rate := k.settleSky.1.rate, ramp := k.settleSky.1.ramp
        skyLimit := k.settleSky.1.skyLimit, pendingSky := none } := by
  by_cases h : k.Advancing
  · rw [SkyClock.settleSky_of_advancing h]
    have hnone : k.stepRamp.pendingSky = none := by rw [SkyClock.stepRamp_frame]; exact h.1
    simp only [SkyClock.advance]
    rw [SkyClock.stepRamp_frame] at hnone ⊢
    simp only at hnone ⊢
    rw [hnone]
  · rw [SkyClock.settleSky_of_not_advancing h]

/-! ### The clock after an update has settled it -/

namespace SkyClock
variable (k : SkyClock)

/-- An update settles the lanes, the rate, the ramp and the Sky Limit flag, and consumes the sets. -/
theorem settle_keeps :
    k.settle.1 =
      { k with
        skyLane := k.settle.1.skyLane, showLane := k.settle.1.showLane, rate := k.settle.1.rate
        ramp := k.settle.1.ramp, skyLimit := k.settle.1.skyLimit
        pendingSky := none, pendingShow := none } := by
  have h := k.settle_frame
  rw [settleSky_frame] at h
  rw [h]

theorem settle_showLane_of_pending {x : Int} (h : k.pendingShow = some x) : k.settle.1.showLane = x :=
  settleShow_of_pending (k := k.settleSky.1) (by rw [settleSky_frame]; exact h)

theorem settle_showLane_of_none (h : k.pendingShow = none) :
    k.settle.1.showLane =
      if k.state = .stopped ∨ ((k.softHold ∨ k.holdLine.active) ∧ k.settings.showHaltsOnHold) then
        k.showLane
      else max (-2 ^ 63) (min (2 ^ 63 - 1) (k.showLane + 1000)) := by
  refine (settleShow_of_none (k := k.settleSky.1) (by rw [settleSky_frame]; exact h)).trans ?_
  rw [settleSky_frame]

variable {k}

/-- At an advancing update the ramp steps, and the Sky lane adds the rate that leaves (R6, R12). -/
theorem settle_of_advancing (h : k.Advancing) :
    k.settle.1.rate = k.stepRamp.rate ∧ k.settle.1.ramp = k.stepRamp.ramp ∧
      k.settle.1.skyLane = sat64 (k.skyLane + k.stepRamp.rate) ∧
      k.settle.1.skyLimit =
        (k.skyLimit || decide (sat64 (k.skyLane + k.stepRamp.rate) ≠ k.skyLane + k.stepRamp.rate)) := by
  have hlane : k.stepRamp.skyLane = k.skyLane := by rw [stepRamp_frame]
  have hflag : k.stepRamp.skyLimit = k.skyLimit := by rw [stepRamp_frame]
  rw [settle_frame, settleSky_of_advancing h, ← hlane, ← hflag]
  exact ⟨rfl, rfl, rfl, rfl⟩

/-- At any other a pending set is applied, and the rate, the ramp and the flag stand. -/
theorem settle_of_not_advancing (h : ¬k.Advancing) :
    k.settle.1.rate = k.rate ∧ k.settle.1.ramp = k.ramp ∧
      k.settle.1.skyLane = k.pendingSky.getD k.skyLane ∧ k.settle.1.skyLimit = k.skyLimit := by
  rw [settle_frame, settleSky_of_not_advancing h]
  exact ⟨rfl, rfl, rfl, rfl⟩

/-- The rate and the ramp by the cases of R12. -/
theorem settle_ramp {rate : Int} {ramp : Option Ramp}
    (hstand : ¬k.Advancing ∨ k.ramp = none → rate = k.rate ∧ ramp = k.ramp)
    (hstep : ∀ r, k.Advancing → k.ramp = some r →
      (r.taken + 1 < r.length →
        rate = r.startRate + Int.tdiv ((r.endRate - r.startRate) * (r.taken + 1)) r.length ∧
        ramp = some { r with taken := r.taken + 1 }) ∧
      (r.length ≤ r.taken + 1 → rate = r.endRate ∧ ramp = none)) :
    k.settle.1.rate = rate ∧ k.settle.1.ramp = ramp := by
  by_cases ha : k.Advancing
  · obtain ⟨hrate, hramp, -, -⟩ := settle_of_advancing ha
    rw [hrate, hramp]
    cases hr : k.ramp with
    | none =>
      obtain ⟨rfl, rfl⟩ := hstand (.inr hr)
      rw [stepRamp_of_none hr]
      exact ⟨rfl, rfl⟩
    | some r =>
      obtain ⟨hrate', hramp'⟩ := stepRamp_of_some hr
      obtain ⟨hmore, hlast⟩ := hstep r ha hr
      rw [hrate', hramp']
      rcases Nat.lt_or_ge (r.taken + 1) r.length with hl | hl
      · obtain ⟨rfl, rfl⟩ := hmore hl
        rw [Ramp.next_of_lt hl]
        exact ⟨rfl, rfl⟩
      · obtain ⟨rfl, rfl⟩ := hlast hl
        rw [Ramp.next_of_le hl]
        exact ⟨rfl, rfl⟩
  · obtain ⟨hrate, hramp, -, -⟩ := settle_of_not_advancing ha
    obtain ⟨rfl, rfl⟩ := hstand (.inl ha)
    exact ⟨hrate, hramp⟩

variable (k)

/-- The Sky lane saturates exactly at an advancing update whose sum leaves the range (R10). -/
theorem saturates_iff :
    k.saturates = true ↔ k.Advancing ∧
      (k.skyLane + k.settle.1.rate < -2 ^ 63 ∨ 2 ^ 63 - 1 < k.skyLane + k.settle.1.rate) := by
  have hlane : k.stepRamp.skyLane = k.skyLane := by rw [stepRamp_frame]
  have hsum : k.saturates = true ↔
      k.Advancing ∧ sat64 (k.skyLane + k.stepRamp.rate) ≠ k.skyLane + k.stepRamp.rate := by
    simp only [saturates, Advancing, hlane, Bool.and_eq_true, decide_eq_true_eq, Bool.not_eq_true',
      and_assoc]
  rw [hsum]
  refine and_congr_right fun ha => ?_
  rw [(settle_of_advancing ha).1, sat64_ne_iff]

/-- The Sky Limit flag joins the clock where its lane saturates, and else stays (R10). -/
theorem settle_skyLimit : k.settle.1.skyLimit = (k.skyLimit || k.saturates) := by
  by_cases ha : k.Advancing
  · obtain ⟨hrate, -, -, hlimit⟩ := settle_of_advancing ha
    rw [hlimit, Bool.eq_iff_iff]
    simp only [Bool.or_eq_true, decide_eq_true_eq, saturates_iff, ha, true_and, hrate, sat64_ne_iff]
  · have hnot : k.saturates = false := Bool.eq_false_iff.2 fun h => ha ((saturates_iff k).1 h).1
    obtain ⟨-, -, -, hlimit⟩ := settle_of_not_advancing ha
    rw [hlimit, hnot, Bool.or_false]

end SkyClock

/-- Settles O15: each advancing update is one step of the ramp. -/
theorem rampReachesItsEndRate : Obligations.RampReachesItsEndRate := by
  refine ⟨fun k start stop length h => ⟨fun n h₁ hn => ?_, ?_⟩, fun k => ⟨?_, ?_⟩⟩
  · obtain ⟨m, rfl⟩ : ∃ m, n = m + 1 := ⟨n - 1, by omega⟩
    have hstep := iterate_advance_succ h (show m < max length 1 by omega)
    rw [Ramp.next_of_lt (show m + 1 < length by omega)] at hstep
    exact Prod.ext_iff.1 hstep
  · obtain ⟨m, hm⟩ : ∃ m, max length 1 = m + 1 := ⟨max length 1 - 1, by omega⟩
    have hstep := iterate_advance_succ h (show m < max length 1 by omega)
    rw [Ramp.next_of_le (show length ≤ m + 1 by omega)] at hstep
    rw [hm]
    exact Prod.ext_iff.1 hstep
  · intro hnone hrun hsoft hline
    have ha : k.Advancing := (k.advancing_iff).2 ⟨hnone, hrun, hsoft, hline⟩
    obtain ⟨hrate, hramp, hlane, -⟩ := SkyClock.settle_of_advancing ha
    exact ⟨hrate, hramp, by rw [hlane, sat64_eq_max_min, SkyClock.advance_rate]⟩
  · intro hnot
    have ha : ¬k.Advancing := by
      rw [SkyClock.advancing_iff]
      rintro ⟨hnone, hrun, hsoft, hline⟩
      simp [hnone, hrun, hsoft, hline] at hnot
    obtain ⟨hrate, hramp, -, -⟩ := SkyClock.settle_of_not_advancing ha
    exact ⟨hrate, hramp⟩

/-! ### Requests to the clock -/

/-- Settles O9: each request passes the tests of R165 and does what its owner lays down. -/
theorem clockRequestsTakeEffect : Obligations.ClockRequestsTakeEffect := by
  intro o s x length h
  have hexec := fun (r : Request) => exec_of_takes h r
  refine ⟨hexec .run rfl fun _ => rfl, hexec .sync rfl fun _ => rfl,
    hexec (.cueable (.skySet x)) rfl fun _ => rfl, hexec (.cueable (.showSet x)) rfl fun _ => rfl, ?_⟩
  refine (hexec (.cueable (.skyRate x length)) rfl fun _ => rfl).trans ?_
  have hclamp : clamp x.toInt (-maxSkyRate) maxSkyRate =
      max (-(2 ^ 47 - 1)) (min (2 ^ 47 - 1) x.toInt) := clamp_eq_max_min (by decide) _
  have hsat : (max (-(2 ^ 47 - 1)) (min (2 ^ 47 - 1) x.toInt) ≠ x.toInt) ↔
      (x.toInt < -(2 ^ 47 - 1) ∨ 2 ^ 47 - 1 < x.toInt) := by omega
  simp only [perform, performCueable, doSkyRate, answerClamped, hclamp, hsat, decide_eq_true_eq]
  rfl

/-- What is handed to the axes: a hold that has come into force, one that has gone out of force, or nothing
(R13). -/
theorem handHold_of_asserted {s : State} (h : s.clock.holdInForce = true) :
    handHold false s = s.mapAxes Axis.holdAsserted := by
  simp only [handHold, h]

theorem handHold_of_released {s : State} (h : s.clock.holdInForce = false) :
    handHold true s = s.mapAxes Axis.holdReleased := by
  simp only [handHold, h]

theorem handHold_of_eq {before : Bool} {s : State} (h : s.clock.holdInForce = before) :
    handHold before s = s := by
  subst h
  unfold handHold
  cases s.clock.holdInForce <;> rfl

/-- The software hold set: the axes take a hold that this brings into force, or one that it ends (R13,
R14). -/
theorem setSoftHold_true (s : State) :
    setSoftHold true s =
      { s with
        clock := { s.clock with softHold := true }
        axes := if s.clock.softHold ∨ s.clock.holdLine.active then s.axes
          else s.axes.map Axis.holdAsserted } := by
  have hafter : (s.setClock { s.clock with softHold := true }).clock.holdInForce = true := rfl
  unfold setSoftHold
  by_cases hb : s.clock.softHold ∨ s.clock.holdLine.active
  · have hbefore : s.clock.holdInForce = true := by simpa [SkyClock.holdInForce] using hb
    rw [if_pos hb, hbefore, handHold_of_eq hafter]
    rfl
  · have hbefore : s.clock.holdInForce = false := by simpa [SkyClock.holdInForce] using hb
    rw [if_neg hb, hbefore, handHold_of_asserted hafter]
    rfl

theorem setSoftHold_false (s : State) :
    setSoftHold false s =
      { s with
        clock := { s.clock with softHold := false }
        axes := if s.clock.softHold ∧ s.clock.holdLine.active = false then s.axes.map Axis.holdReleased
          else s.axes } := by
  have hafter : (s.setClock { s.clock with softHold := false }).clock.holdInForce =
      s.clock.holdLine.active := rfl
  unfold setSoftHold
  by_cases hb : s.clock.softHold ∧ s.clock.holdLine.active = false
  · have hbefore : s.clock.holdInForce = true := by simp [SkyClock.holdInForce, hb.1]
    rw [if_pos hb, hbefore, handHold_of_released (hafter.trans hb.2)]
    rfl
  · have hsame : s.clock.holdLine.active = s.clock.holdInForce := by
      cases hs : s.clock.softHold <;> simp_all [SkyClock.holdInForce]
    rw [if_neg hb, handHold_of_eq (hafter.trans hsame)]
    rfl

/-- Settles O10, by the four holds and then state by state. -/
theorem holdAndReleaseReachTheAxes : Obligations.HoldAndReleaseReachTheAxes := by
  refine ⟨fun o s h => ⟨?_, ?_⟩, fun a => ⟨fun hf => ?_, fun hf => ?_⟩⟩
  · rw [← setSoftHold_true]
    exact exec_of_takes h (.cueable .hold) rfl fun _ => rfl
  · rw [← setSoftHold_false]
    exact exec_of_takes h (.cueable .release) rfl fun _ => rfl
  · simp [Axis.holdAsserted, Axis.holdReleased, hf]
  · have hne : a.motion.holdResponse ≠ .follow := by simp [hf]
    unfold Axis.holdAsserted Axis.holdReleased
    simp only [hne, if_false]
    refine ⟨?_, ?_, ?_, ?_, ?_⟩
    · intro hs; simp [hs]
    · intro hs; simp [hs]
    · intro hs; simp [hs]
    · intro hs
      simp only [hs]
      constructor <;> split <;> rw [← hs]
    · rintro (hs | hs | hs) <;> simp [hs]

/-- The codes a policy byte and a flag byte have (spec/12). -/
theorem readPolicy_eq (b : Byte) :
    readPolicy b = if b.toNat ≤ 1 then some (if b.toNat = 0 then .serve else .defer) else none := by
  unfold readPolicy
  rcases h : b.toNat with _ | _ | n <;> simp

theorem readFlag_eq (b : Byte) :
    readFlag b = if b.toNat ≤ 1 then some (decide (b.toNat = 1)) else none := by
  unfold readFlag
  rcases h : b.toNat with _ | _ | n <;> simp

theorem EngineState.working_iff (e : EngineState) :
    e.working = true ↔ e = .erasing ∨ e = .programming := by
  cases e <;> simp [EngineState.working]

/-- The suspend request that waiting reads raise under SERVE, as a change of the port (R52). -/
theorem raiseSuspend_eq (s : State) :
    raiseSuspend s =
      { s with
        port := if s.clock.settings.policy = .serve ∧ s.anyWaiting ∧
            (s.memory.engine = .erasing ∨ s.memory.engine = .programming) then
          { s.port with suspendRequest := true } else s.port } := by
  simp only [raiseSuspend, EngineState.working_iff]
  split <;> rfl

theorem anyWaiting_setClock (k : SkyClock) (s : State) : (s.setClock k).anyWaiting = s.anyWaiting := rfl

/-- Settles O11: the two code bytes are tested, the windows saturate. -/
theorem unitSettingsAreWritten : Obligations.UnitSettingsAreWritten := by
  intro o s policy halts hold halt h
  have hexec : exec (.unitSettings o policy halts hold halt) s =
      .next (answered o 0x08 (doUnitSettings policy halts hold halt s)) :=
    exec_of_takes h (.unitSettings policy halts hold halt) rfl fun _ => rfl
  rw [hexec]
  unfold doUnitSettings
  rw [readPolicy_eq, readFlag_eq]
  constructor
  · rintro (hp | hp)
    · simp [Nat.not_le.2 hp]
    · simp only [Nat.not_le.2 hp, if_false]
      split <;> simp_all
  · intro hp hh
    have hserve : (if policy.toNat = 0 then SuspendPolicy.serve else .defer) = .serve ↔
        policy.toNat = 0 := by split <;> simp [*]
    simp only [hp, hh, if_true, answerClamped, windowSaturates, raiseSuspend_eq, anyWaiting_setClock,
      State.setClock_clock, State.setClock_memory, State.setClock_port, hserve, Bool.or_eq_true,
      decide_eq_true_eq]
    rfl
end Sys2Proof.Machine
end

section
/-! The wrap base, the gear transform and the soft clamp (spec/02), and the statement about them (O19). -/

namespace Sys2Proof.Machine

/-! ### The wrap base (R34, R35) -/

/-- A rebase is put off unless it is due on a WRAPPING axis whose evaluation set P. -/
theorem Axis.rebase_of_not_due {a : Axis} {setP : Bool}
    (h : a.motion.kind = .bounded ∨ a.rebaseDue = false ∨ setP = false) : a.rebase setP = a := by
  have hnot : ¬(a.motion.kind = .wrapping ∧ a.rebaseDue = true ∧ setP = true) := by
    rintro ⟨hk, hd, hp⟩
    rcases h with h | h | h <;> simp_all
  simp only [Axis.rebase, hnot, if_false]

theorem Axis.rebase_of_due {a : Axis} (hk : a.motion.kind = .wrapping) (hd : a.rebaseDue = true) :
    a.rebase true = { a with w := rebasedWrap a.p a.c a.motion.steps, rebaseDue := false } := by
  simp [Axis.rebase, hk, hd]

/-- The wrap base as the nearest multiple of a revolution, saturated. -/
theorem rebasedWrap_eq (p c : Int) (steps : Nat) :
    rebasedWrap p c steps =
      max (-2 ^ 63) (min (2 ^ 63 - 2 ^ 32)
        (2 ^ 32 * Int.fdiv (p - Int.fdiv (c * 2 ^ 32) steps + 2 ^ 31) (2 ^ 32))) :=
  clamp_eq_max_min (by decide) _

/-- A number lies less than a half above and at most a half below the nearest multiple of 2^32. -/
theorem nearest_multiple_bounds (x : Int) :
    -2 ^ 31 ≤ x - 2 ^ 32 * Int.fdiv (x + 2 ^ 31) (2 ^ 32) ∧
      x - 2 ^ 32 * Int.fdiv (x + 2 ^ 31) (2 ^ 32) ≤ 2 ^ 31 - 1 := by
  rw [Int.fdiv_eq_ediv_of_nonneg _ (by norm_num)]
  omega

/-! ### The gear transform and the soft clamp (R36, R37) -/

theorem gearTarget_eq (p w : Int) (steps : Nat) :
    gearTarget p w steps =
      max (-2 ^ 63) (min (2 ^ 63 - 1) (Int.fdiv ((p - w) * steps) (2 ^ 32))) :=
  sat64_eq_max_min _

theorem Axis.gear_of_wrapping {a : Axis} (h : a.motion.kind = .wrapping) :
    a.gear = { a with m := gearTarget a.p a.w a.motion.steps } := by
  simp [Axis.gear, h]

theorem Axis.gear_of_bounded {a : Axis} (h : a.motion.kind = .bounded) :
    a.gear = a.clampTarget (gearTarget a.p a.w a.motion.steps) := by
  simp [Axis.gear, h]

/-- The soft clamp below, above and within the soft limits. -/
theorem Axis.clampTarget_of_lt {a : Axis} {x : Int} (h : x < a.motion.softMin) :
    a.clampTarget x = { a with m := a.motion.softMin, clamped := true } := by
  simp [Axis.clampTarget, clamp, h]

theorem Axis.clampTarget_of_gt {a : Axis} {x : Int} (h₁ : a.motion.softMin ≤ x)
    (h₂ : a.motion.softMax < x) :
    a.clampTarget x = { a with m := a.motion.softMax, clamped := true } := by
  simp [Axis.clampTarget, clamp, not_lt.2 h₁, h₂]

theorem Axis.clampTarget_of_within {a : Axis} {x : Int} (h₁ : a.motion.softMin ≤ x)
    (h₂ : x ≤ a.motion.softMax) : a.clampTarget x = { a with m := x, clamped := false } := by
  simp [Axis.clampTarget, clamp, not_lt.2 h₁, not_lt.2 h₂]

/-- A revolution of P is S steps of the motor, but for saturation. -/
theorem gearTarget_revolution {p w : Int} {steps : Nat} (h₁ : -2 ^ 63 < gearTarget p w steps)
    (h₂ : gearTarget p w steps + steps < 2 ^ 63 - 1) :
    gearTarget (p + 2 ^ 32) w steps = gearTarget p w steps + steps := by
  have hturn : Int.fdiv ((p + 2 ^ 32 - w) * steps) (2 ^ 32) =
      Int.fdiv ((p - w) * steps) (2 ^ 32) + steps := by
    rw [show (p + 2 ^ 32 - w) * (steps : Int) = (p - w) * steps + steps * 2 ^ 32 by ring,
      Int.add_mul_fdiv_right _ _ (by norm_num)]
  rw [gearTarget_eq] at h₁ h₂ ⊢
  rw [gearTarget_eq, hturn]
  omega

/-- Settles O19, stage by stage. -/
theorem rebaseAndGearTransform : Obligations.RebaseAndGearTransform := by
  refine ⟨fun u => ⟨rfl, rfl, rfl, rfl⟩, ?_, ?_⟩
  · rintro a setP angle wrap rfl rfl
    refine ⟨?_, Axis.rebase_of_not_due, fun hk hd hset => ?_⟩
    · rintro s u b rfl
      rfl
    · subst hset
      rw [Axis.rebase_of_due hk hd, rebasedWrap_eq]
      refine ⟨rfl, fun hlow hhigh => ?_⟩
      rw [min_eq_right hhigh, max_eq_right hlow]
      have hnear := nearest_multiple_bounds (a.p - Int.fdiv (a.c * 2 ^ 32) a.motion.steps)
      dsimp only
      omega
  · rintro a x rfl
    rw [← gearTarget_eq]
    refine ⟨Axis.gear_of_wrapping, fun hk => ?_, fun hk h₁ h₂ => ?_⟩
    · rw [Axis.gear_of_bounded hk]
      exact ⟨Axis.clampTarget_of_lt, Axis.clampTarget_of_gt, Axis.clampTarget_of_within⟩
    · rw [Axis.gear_of_wrapping hk] at h₁ h₂ ⊢
      rw [Axis.gear_of_wrapping (a := { a with p := a.p + 2 ^ 32 }) hk]
      exact gearTarget_revolution h₁ h₂

end Sys2Proof.Machine
end

section
/-! Faults, the samples of Sense Inputs and of the Hold and Halt lines (spec/01, spec/06, spec/07), and the
statements about them (O30, O31). -/

namespace Sys2Proof.Machine

/-! ### Entry to FAULTED (R105 to R107) -/

theorem abandonFetch_eq (a : Axis) :
    a.abandonFetch =
      { a with
        bracket := .none, fetch := none, stallCounted := false
        fetchState :=
          if a.fetchState = .granted ∨ a.fetchState = .discarding then .discarding else .idle } := by
  unfold Axis.abandonFetch
  cases a.fetchState <;> rfl

/-- The levels of the three park modes (R147). -/
theorem applyPark_eq (mode : ParkMode) (o : Output) :
    o.applyPark mode =
      { o with
        parkPending := false, enable := decide (mode = .holdTorque)
        brake := decide (mode = .brake) } := by
  cases mode <;> rfl

/-- What an entry to FAULTED leaves of the axis. -/
theorem enterFault_eq (cause : FaultCause) (showLane : Int) (a : Axis) :
    a.enterFault cause showLane =
      { a with
        bracket := .none, fetch := none, stallCounted := false
        fetchState :=
          if a.fetchState = .granted ∨ a.fetchState = .discarding then .discarding else .idle
        v := 0, moves := [], headStart := none, remembered := none, activeLimit := none
        stopTaken := true
        homing :=
          if a.homing.phase = .none then a.homing
          else
            { a.homing with
              phase := .none, paused := false
              lastEnd := some (if cause = .homeFail then .failed else .ended, a.homing.phase) }
        homed := false
        fault := { cause := cause, time := showLane, stateAt := a.state, further := 0 }
        state := .faulted
        output :=
          if a.output.window = none then
            { a.output with
              mode := .parked, parkPending := false
              enable := decide (a.motion.parkMode = .holdTorque)
              brake := decide (a.motion.parkMode = .brake) }
          else { a.output with mode := .parked, parkPending := true } } := by
  simp only [Axis.enterFault, abandonFetch_eq, Output.park, applyPark_eq, Homing.finish]

/-- A fault cause by the state of the axis. -/
theorem takeCause_of_off {i : AxisIdx} {s : State} (cause : FaultCause) (h : (s.axis i).state = .off) :
    takeCause cause i s = s := by
  simp [takeCause, h]

theorem takeCause_of_faulted {i : AxisIdx} {s : State} (cause : FaultCause)
    (h : (s.axis i).state = .faulted) :
    takeCause cause i s =
      s.onAxis i (fun a =>
        { a with fault := { a.fault with further := countUp 255 1 a.fault.further } }) := by
  simp [takeCause, h]

theorem takeCause_of_active {i : AxisIdx} {s : State} (cause : FaultCause)
    (hoff : (s.axis i).state ≠ .off) (hfaulted : (s.axis i).state ≠ .faulted) :
    takeCause cause i s = faultAxis i cause s := by
  unfold takeCause
  split <;> simp_all

/-! ### The Hold and Halt lines (R13, R15, R16) -/

theorem LineFilter.sample_of_completes {window : Nat} {level : Level} {f : LineFilter}
    (h : f.completes window level) :
    f.sample window (Level.asserted level) =
      ({ active := Level.asserted level, runCount := 0 }, true) := by
  obtain ⟨hne, hrun⟩ := h
  simp [LineFilter.sample, hne, hrun]

theorem LineFilter.sample_of_not_completes {window : Nat} {level : Level} {f : LineFilter}
    (h : ¬f.completes window level) :
    f.sample window (Level.asserted level) =
      ({ f with
         runCount := if Level.asserted level = f.active then 0 else f.runCount + 1 }, false) := by
  unfold LineFilter.sample
  split
  · simp
  · rename_i hne
    have hrun : ¬window ≤ f.runCount := fun hle => h ⟨hne, hle⟩
    simp [hrun]

/-- An acceptance of the Hold line hands the hold on unless the software hold keeps it in force. -/
theorem sampleHold_of_completes {level : Level} {s : State}
    (h : s.clock.holdLine.completes s.clock.settings.holdWindow level) :
    sampleHold level s =
      { s with
        clock := { s.clock with holdLine := { active := Level.asserted level, runCount := 0 } }
        axes :=
          if s.clock.softHold then s.axes
          else if level = .low then s.axes.map Axis.holdAsserted
          else s.axes.map Axis.holdReleased } := by
  have hturn : s.clock.holdLine.active = !Level.asserted level := Bool.eq_not.2 (Ne.symm h.1)
  unfold sampleHold
  rw [LineFilter.sample_of_completes h]
  cases hs : s.clock.softHold with
  | true =>
    rw [handHold_of_eq (by simp [SkyClock.holdInForce, hs])]
    rfl
  | false =>
    have hbefore : s.clock.holdInForce = !Level.asserted level := by
      simp [SkyClock.holdInForce, hs, hturn]
    cases level with
    | low =>
      rw [hbefore, Level.asserted, Bool.not_true,
        handHold_of_asserted (by simp [SkyClock.holdInForce])]
      rfl
    | high =>
      rw [hbefore, Level.asserted, Bool.not_false,
        handHold_of_released (by simp [SkyClock.holdInForce, hs])]
      rfl

theorem sampleHold_of_not_completes {level : Level} {s : State}
    (h : ¬s.clock.holdLine.completes s.clock.settings.holdWindow level) :
    sampleHold level s =
      { s with
        clock :=
          { s.clock with
            holdLine :=
              { s.clock.holdLine with
                runCount := if Level.asserted level = s.clock.holdLine.active then 0
                  else s.clock.holdLine.runCount + 1 } } } := by
  unfold sampleHold
  rw [LineFilter.sample_of_not_completes h]
  exact handHold_of_eq rfl

theorem sampleHalt_of_completes {level : Level} {s : State}
    (h : s.clock.haltLine.completes s.clock.settings.haltWindow level) :
    sampleHalt level s =
      if Level.asserted level then
        haltAsserted (s.setClock
          { s.clock with haltLine := { active := Level.asserted level, runCount := 0 } })
      else
        s.setClock { s.clock with haltLine := { active := Level.asserted level, runCount := 0 } } := by
  unfold sampleHalt
  rw [LineFilter.sample_of_completes h]
  rfl

theorem sampleHalt_of_not_completes {level : Level} {s : State}
    (h : ¬s.clock.haltLine.completes s.clock.settings.haltWindow level) :
    sampleHalt level s =
      s.setClock
        { s.clock with
          haltLine :=
            { s.clock.haltLine with
              runCount := if Level.asserted level = s.clock.haltLine.active then 0
                else s.clock.haltLine.runCount + 1 } } := by
  unfold sampleHalt
  rw [LineFilter.sample_of_not_completes h]
  rfl

/-- With power, the acceptance commands of the two lines are the samples that complete one. -/
theorem exec_holdLineAcceptance {level : Level} {s : State} (hp : s.power = .on)
    (h : s.clock.holdLine.completes s.clock.settings.holdWindow level) :
    exec (.holdLineAcceptance level) s = .next (sampleHold level s) := by
  simp [exec, execHoldLineAcceptance, whenOn, hp, LineFilter.sample_of_completes h]

theorem exec_haltLineAcceptance {level : Level} {s : State} (hp : s.power = .on)
    (h : s.clock.haltLine.completes s.clock.settings.haltWindow level) :
    exec (.haltLineAcceptance level) s = .next (sampleHalt level s) := by
  simp [exec, execHaltLineAcceptance, whenOn, hp, LineFilter.sample_of_completes h]

theorem exec_filterSample {s : State} (hp : s.power = .on) (line : FilterLine) (level : Level) :
    exec (.filterSample line level) s = .next (sampleLine line level s) := by
  simp [exec, execFilterSample, whenOn, hp]

/-! ### The switch inputs (R125 to R127) -/

@[simp] theorem PerInput.get_put_same {α : Type} (k : InputKind) (v : α) (x : PerInput α) :
    (x.put k v).get k = v := by cases k <;> rfl

/-- A completing sample accepts its level: a change, or the settling of an UNSETTLED filter. -/
theorem Filter.sample_of_completes {window : Nat} {level : Level} {f : Filter}
    (h : Completes window level f) :
    f.sample window level =
      (f.accept level, if f.accepted = none then .settling else .change) := by
  unfold Completes at h
  unfold Filter.sample Filter.accept
  cases hf : f.accepted with
  | some now =>
    rw [hf] at h
    obtain ⟨hne, hrun⟩ := h
    simp [hne, hrun]
  | none =>
    rw [hf] at h
    have hcount : window + 1 ≤ if f.runCount = 0 ∨ level ≠ f.runLevel then 1 else f.runCount + 1 := by
      dsimp only at h
      split at h <;> simp_all
    simp [hcount]

/-- Any other sample counts, and brings nothing. -/
theorem Filter.sample_of_not_completes {window : Nat} {level : Level} {f : Filter}
    (h : ¬Completes window level f) :
    f.sample window level =
      ({ accepted := f.accepted
         runLevel := if f.accepted = none then level else f.runLevel
         runCount :=
           if f.accepted = some level then 0
           else if f.accepted = none ∧ level ≠ f.runLevel then 1 else f.runCount + 1 }, .nothing) := by
  unfold Completes at h
  unfold Filter.sample
  cases hf : f.accepted with
  | some now =>
    rw [hf] at h
    by_cases hl : level = now
    · simp [hl]
    · have hrun : ¬window ≤ f.runCount := fun hle => h ⟨hl, hle⟩
      simp [hl, Ne.symm hl, hrun]
  | none =>
    rw [hf] at h
    have hcount : (if f.runCount = 0 ∨ level ≠ f.runLevel then 1 else f.runCount + 1) =
        if level ≠ f.runLevel then 1 else f.runCount + 1 := by
      split_ifs <;> simp_all
    have hshort : ¬window + 1 ≤ if level ≠ f.runLevel then 1 else f.runCount + 1 := by
      rw [← hcount]
      dsimp only at h
      split at h <;> simp_all
    simp only [hcount, hshort, if_false]
    simp

/-- Whether an accepted level is the active one. -/
theorem Axis.inputActive_accept (k : InputKind) (level : Level) (a : Axis) :
    (a.accept k level).inputActive k = decide (level = a.sense.activeLevels.get k) := by
  simp [Axis.inputActive, Axis.accept, Filter.accept]

/-- What a completing sample hands on: the acceptance, unless an UNSETTLED filter settles on the inactive
level. -/
theorem handed_of_accepts {k : InputKind} {level : Level} {a : Axis} (h : a.accepts k level) :
    Acceptance.handed (decide (level = a.sense.activeLevels.get k))
        (if (a.filters.get k).accepted = none then .settling else .change) =
      some (decide (level = a.sense.activeLevels.get k)) := by
  obtain ⟨-, h⟩ := h
  split
  · rename_i hnone
    have hl := h.resolve_left (fun hne => hne hnone)
    simp [Acceptance.handed, hl]
  · rfl

theorem handed_of_not_accepts {k : InputKind} {level : Level} {a : Axis}
    (hc : Completes (a.sense.windows.get k) level (a.filters.get k)) (h : ¬a.accepts k level) :
    Acceptance.handed (decide (level = a.sense.activeLevels.get k))
        (if (a.filters.get k).accepted = none then .settling else .change) = none := by
  have hnone : (a.filters.get k).accepted = none := by_contra fun hne => h ⟨hc, .inl hne⟩
  have hl : level ≠ a.sense.activeLevels.get k := fun hl => h ⟨hc, .inr hl⟩
  simp [hnone, Acceptance.handed, hl]

section
variable {i : AxisIdx} {k : InputKind} {level : Level} {s : State}

/-- A sample that completes an acceptance hands it to the axis context. -/
theorem sampleInput_of_accepts (h : (s.axis i).accepts k level) :
    sampleInput i k level s =
      handInput i k (decide (level = (s.axis i).sense.activeLevels.get k))
        (s.setAxis i ((s.axis i).accept k level)) := by
  have hactive := (s.axis i).inputActive_accept k level
  unfold Axis.accept at hactive
  simp only [sampleInput, Filter.sample_of_completes h.1, State.axis_setAxis_same, hactive,
    handed_of_accepts h]
  rfl

/-- A filter that settles on the inactive level hands nothing on. -/
theorem sampleInput_of_settles (hc : Completes ((s.axis i).sense.windows.get k) level
    ((s.axis i).filters.get k)) (h : ¬(s.axis i).accepts k level) :
    sampleInput i k level s = s.setAxis i ((s.axis i).accept k level) := by
  have hactive := (s.axis i).inputActive_accept k level
  unfold Axis.accept at hactive
  simp only [sampleInput, Filter.sample_of_completes hc, State.axis_setAxis_same, hactive,
    handed_of_not_accepts hc h]
  rfl

/-- Any other sample changes the filter alone. -/
theorem sampleInput_of_not_completes (h : ¬Completes ((s.axis i).sense.windows.get k) level
    ((s.axis i).filters.get k)) :
    sampleInput i k level s =
      s.setAxis i
        { s.axis i with
          filters := (s.axis i).filters.put k
            (((s.axis i).filters.get k).sample ((s.axis i).sense.windows.get k) level).1 } := by
  simp only [sampleInput, Filter.sample_of_not_completes h, Acceptance.handed]

/-- The acceptance commands are the samples that hand an acceptance on. -/
theorem acceptInput_of_accepts (h : (s.axis i).accepts k level) :
    acceptInput i k level s = sampleInput i k level s := by
  simp [acceptInput, inputAccepts, Filter.sample_of_completes h.1, handed_of_accepts h]

end

/-- Settles O30: the axis by its state, then the two acceptances. -/
theorem faultCausesReachTheAxes : Obligations.FaultCausesReachTheAxes := by
  refine ⟨?_, fun i level s hp h => ?_, ?_⟩
  · rintro cause i s a rfl
    refine ⟨takeCause_of_off cause, takeCause_of_faulted cause, fun hoff hfaulted => ?_⟩
    rw [takeCause_of_active cause hoff hfaulted, ← enterFault_eq]
    rfl
  · have hexec : exec (.drvFaultAcceptance i level) s = .next (acceptInput i .drvFault level s) := by
      simp [exec, execDrvFaultAcceptance, whenOn, hp]
    rw [hexec, acceptInput_of_accepts h, sampleInput_of_accepts h]
    simp only [handInput, handDrvFault, decide_eq_true_eq]
    rfl
  · rintro level s t hp h rfl
    rw [exec_haltLineAcceptance hp h, sampleHalt_of_completes h]
    constructor <;> rintro rfl <;> rfl

/-- Settles O31: each sample completes an acceptance, settles a filter, or counts. -/
theorem filterSamplesAcceptOrCount : Obligations.FilterSamplesAcceptOrCount := by
  refine ⟨?_, ?_, ?_, ?_⟩
  · intro level
    cases level <;> rfl
  · rintro i k level s a hp rfl
    rw [exec_filterSample hp]
    refine ⟨fun h => ?_, fun hc h => ?_, fun h => ?_⟩
    · have hon : ∀ f : State → State, whenOn f s = .next (f s) := fun f => by simp [whenOn, hp]
      have hsample : whenOn (acceptInput i k level) s = .next (sampleInput i k level s) := by
        rw [hon, acceptInput_of_accepts h]
      cases k <;> exact hsample.symm
    · exact congrArg _ (sampleInput_of_settles hc h)
    · refine congrArg _ ((sampleInput_of_not_completes h).trans ?_)
      rw [Filter.sample_of_not_completes h]
  · rintro level s hp window f rfl rfl
    rw [exec_filterSample hp]
    refine ⟨fun h => congrArg _ (sampleHold_of_not_completes h), ?_⟩
    rintro h t rfl
    rw [exec_holdLineAcceptance hp h, ← sampleHold_of_completes h]
    exact ⟨rfl, rfl⟩
  · intro level s hp
    rw [exec_filterSample hp]
    exact ⟨fun h => (exec_haltLineAcceptance hp h).symm,
      fun h => congrArg _ (sampleHalt_of_not_completes h)⟩

end Sys2Proof.Machine
end

section
/-! The Attention Set and CLEAR (spec/11, spec/12), the values after a power-on reset, and the statements
about them (O47, O3). -/

namespace Sys2Proof.Machine

/-! ### Axis sets -/

@[simp] theorem inSet_and_not (a b : AxisSet) (i : AxisIdx) :
    inSet (a &&& ~~~b) i = (inSet a i && !inSet b i) := by
  simp [inSet]

/-- A set without an axis is the empty one. -/
theorem axisSet_eq_zero_iff (a : AxisSet) : a = 0 ↔ ∀ i, inSet a i = false := by
  constructor
  · rintro rfl i
    simp [inSet]
  · intro h
    apply BitVec.eq_of_getLsbD_eq
    intro k hk
    exact (h ⟨k, hk⟩).trans (by simp)

/-! ### The Attention Set (R171) -/

theorem Attention.eq_empty_iff (x : Attention) :
    x = Attention.empty ↔ x.rewriteEnd = false ∧ x.cueFailed = false ∧ x.linkError = false ∧
      x.skyLimit = false ∧ (∀ i, inSet x.axisFault i = false) ∧ (∀ i, inSet x.capture i = false) ∧
      ∀ i, inSet x.limit i = false := by
  simp only [← axisSet_eq_zero_iff]
  cases x
  simp [Attention.empty]

/-- The line is asserted while some cause stands. -/
theorem attentionLine_iff (s : State) :
    s.attentionLine = true ↔
      s.link.attention.rewriteEnd = true ∨ s.link.attention.cueFailed = true ∨
        s.link.attention.linkError = true ∨ s.link.attention.skyLimit = true ∨
        ∃ i, inSet s.link.attention.axisFault i = true ∨ inSet s.link.attention.capture i = true ∨
          inSet s.link.attention.limit i = true := by
  simp only [State.attentionLine, decide_eq_true_eq, ne_eq]
  rw [← not_iff_not, not_not, Attention.eq_empty_iff]
  simp only [not_or, not_exists, Bool.not_eq_true, forall_and]

/-- A raised cause joins the set, and every other stays. -/
theorem raise_cases (cause : Cause) (x : Attention) :
    ((x.raise cause).rewriteEnd = true ↔ x.rewriteEnd = true ∨ cause = .rewriteEnd) ∧
    ((x.raise cause).cueFailed = true ↔ x.cueFailed = true ∨ cause = .cueFailed) ∧
    ((x.raise cause).linkError = true ↔ x.linkError = true ∨ cause = .linkError) ∧
    ((x.raise cause).skyLimit = true ↔ x.skyLimit = true ∨ cause = .skyLimit) ∧
    ∀ i,
      (inSet (x.raise cause).axisFault i = true ↔ inSet x.axisFault i = true ∨ cause = .axisFault i) ∧
      (inSet (x.raise cause).capture i = true ↔ inSet x.capture i = true ∨ cause = .capture i) ∧
      (inSet (x.raise cause).limit i = true ↔ inSet x.limit i = true ∨ cause = .limit i) := by
  cases cause <;> simp [Attention.raise]

/-- A byte of flags by its bits. -/
theorem flagByte_eq (flags : List Bool) : flagByte flags = bitsByte flags := by
  induction flags with
  | nil => rfl
  | cons b rest ih => cases b <;> simp [flagByte, bitsByte, ih]

theorem attentionField_eq (x : Attention) :
    attentionField x =
      BitVec.ofNat 8 (bitsByte [x.rewriteEnd, x.cueFailed, x.linkError, x.skyLimit]) ::
        (beBytes 2 x.axisFault.toNat ++ beBytes 2 x.capture.toNat ++ beBytes 2 x.limit.toNat) := by
  simp only [attentionField, flagsField, flagByte_eq, bytes16_eq]

/-- Settles O47: what a raised cause does, the line, the reply's bytes, and the state after a CLEAR. -/
theorem clearRemovesWhatItNames : Obligations.ClearRemovesWhatItNames := by
  refine ⟨?_, attentionLine_iff, attentionField_eq, fun o s f h => ?_⟩
  · rintro s _ cause rfl
    exact ⟨rfl, raise_cases cause s.link.attention⟩
  · refine ⟨cleared f s, exec_of_takes h (.clear f) rfl fun _ => rfl, rfl, rfl, rfl, rfl, fun i => ?_, rfl,
      rfl, rfl, rfl, rfl, rfl, rfl, rfl, rfl⟩
    exact ⟨inSet_and_not _ _ i, inSet_and_not _ _ i, inSet_and_not _ _ i, cleared_axis f s i⟩

/-! ### A power-on reset -/

/-- Settles O3: every block takes its reset values, and every axis those of `Axis.reset`. -/
theorem powerOnResetBringsResetValues : Obligations.PowerOnResetBringsResetValues := by
  intro straps s
  refine ⟨powerOnReset straps s, rfl, rfl, rfl, fun i => ?_, rfl, rfl, rfl, rfl, rfl, rfl, rfl, rfl, rfl, rfl,
    rfl, rfl, rfl, rfl, rfl, rfl⟩
  rw [show (powerOnReset straps s).axis i = Axis.reset from resetBlocks_axis straps .on s i]
  refine ⟨rfl, rfl, rfl, rfl, rfl, rfl, rfl, rfl, rfl, rfl, rfl, rfl, rfl, rfl, rfl, rfl, rfl, rfl, rfl, rfl,
    rfl, rfl, rfl, rfl, rfl, rfl, rfl, rfl, rfl, rfl, fun k => ?_, rfl, rfl⟩
  cases k <;> exact ⟨rfl, rfl⟩

end Sys2Proof.Machine
end

section
/-! The turns of a Lane Update (R19, R79) as `AxisWork`: what they leave alone, and that they go the same way
whatever work is in hand. -/

namespace Sys2Proof.Machine

/-! ### What the turns and the requests to an axis leave alone -/

/-- A change of the axes, of the ports and of Table Memory: power, the Sky Clock, the cues that wait, the
SKY_LIMIT cause and the work in hand stand. -/
structure Aside (s t : State) : Prop where
  power : t.power = s.power
  clock : t.clock = s.clock
  records : t.cues.records = s.cues.records
  skyLimit : t.link.attention.skyLimit = s.link.attention.skyLimit
  work : t.work = s.work

theorem Aside.refl (s : State) : Aside s s := ⟨rfl, rfl, rfl, rfl, rfl⟩

theorem Aside.trans {s t u : State} (h : Aside s t) (h' : Aside t u) : Aside s u :=
  ⟨h'.power.trans h.power, h'.clock.trans h.clock, h'.records.trans h.records,
    h'.skyLimit.trans h.skyLimit, h'.work.trans h.work⟩

theorem aside_onAxis (i : AxisIdx) (f : Axis → Axis) (s : State) : Aside s (s.onAxis i f) :=
  ⟨rfl, rfl, rfl, rfl, rfl⟩

/-- A cause other than SKY_LIMIT leaves that cause as it is (R171). -/
theorem raise_skyLimit {c : Cause} (h : c ≠ .skyLimit) (x : Attention) :
    (x.raise c).skyLimit = x.skyLimit := by
  cases c with
  | skyLimit => exact absurd rfl h
  | _ => rfl

theorem aside_raise {c : Cause} (h : c ≠ .skyLimit) (s : State) : Aside s (s.raise c) :=
  ⟨rfl, rfl, rfl, raise_skyLimit h _, rfl⟩

/-- The state with another work in hand and another count of free values. -/
def State.withWork (w : Option UpdateWork) (d : Nat) (s : State) : State := { s with work := w, draws := d }

/-- An operation of an axis turn: it stays aside, and neither reads nor writes the work in hand or the count of
free values. -/
structure AxisWork (f : State → State) : Prop where
  aside : ∀ s, Aside s (f s)
  blind : ∀ s w d, f (s.withWork w d) = (f s).withWork w d

section
variable {f g : State → State}

theorem AxisWork.id : AxisWork (fun s => s) := ⟨.refl, fun _ _ _ => rfl⟩

theorem AxisWork.comp (hg : AxisWork g) (hf : AxisWork f) : AxisWork (fun s => g (f s)) :=
  ⟨fun s => (hf.aside s).trans (hg.aside _), fun s w d => by rw [hf.blind, hg.blind]⟩

theorem AxisWork.ite {c : State → Prop} [DecidablePred c]
    (hc : ∀ s w d, c (State.withWork w d s) ↔ c s) (hf : AxisWork f) (hg : AxisWork g) :
    AxisWork (fun s => if c s then f s else g s) := by
  refine ⟨fun s => ?_, fun s w d => ?_⟩
  · split
    · exact hf.aside s
    · exact hg.aside s
  · simp only [hc, hf.blind, hg.blind]
    split <;> rfl

/-- A case split on a part of the state that is not the work in hand. -/
theorem AxisWork.cases {α : Type} (k : State → α) (hk : ∀ s w d, k (State.withWork w d s) = k s)
    (h : ∀ x, ∃ g, AxisWork g ∧ ∀ s, k s = x → f s = g s) : AxisWork f := by
  refine ⟨fun s => ?_, fun s w d => ?_⟩ <;> obtain ⟨g, hg, hfg⟩ := h (k s)
  · rw [hfg s rfl]
    exact hg.aside s
  · rw [hfg s rfl, hfg _ (hk s w d), hg.blind]

end

theorem axisWork_onAxis (i : AxisIdx) (f : Axis → Axis) : AxisWork (State.onAxis i f) :=
  ⟨aside_onAxis i f, fun _ _ _ => rfl⟩

theorem axisWork_raise {c : Cause} (h : c ≠ .skyLimit) : AxisWork (State.raise c) :=
  ⟨aside_raise h, fun _ _ _ => rfl⟩

theorem axisWork_handOver (i : AxisIdx) (n : Int) : AxisWork (handOver i n) :=
  ⟨fun s => aside_onAxis i _ s, fun _ _ _ => rfl⟩

/-! ### The Table Port -/

theorem axisWork_resumeIfIdle : AxisWork resumeIfIdle :=
  .ite (fun _ _ _ => Iff.rfl) ⟨fun _ => ⟨rfl, rfl, rfl, rfl, rfl⟩, fun _ _ _ => rfl⟩ .id

theorem axisWork_raiseSuspend : AxisWork raiseSuspend :=
  .ite (fun _ _ _ => Iff.rfl) ⟨fun _ => ⟨rfl, rfl, rfl, rfl, rfl⟩, fun _ _ _ => rfl⟩ .id

theorem axisWork_countStall (i : AxisIdx) : AxisWork (fun s => countStall s i) :=
  .ite (fun _ _ _ => Iff.rfl) ⟨fun _ => ⟨rfl, rfl, rfl, rfl, rfl⟩, fun _ _ _ => rfl⟩ .id

theorem axisWork_grantRead : AxisWork grantRead := by
  refine .ite (fun _ _ _ => Iff.rfl) ?_ .id
  refine .cases (fun s => (serviceOrder s.port.lastServed).findSome? s.askedRead) (fun _ _ _ => rfl) ?_
  rintro (_ | r)
  · exact ⟨_, .id, fun s h => by rw [h]⟩
  · exact ⟨fun s => { s with port := { s.port with reading := some r, lastServed := r.axis } }.onAxis r.axis
        (fun a => { a with fetchState := .granted, stallCounted := false }),
      ⟨fun _ => ⟨rfl, rfl, rfl, rfl, rfl⟩, fun _ _ _ => rfl⟩, fun s h => by rw [h]⟩

theorem axisWork_postRead (i : AxisIdx) : AxisWork (postRead i) :=
  .ite (fun _ _ _ => Iff.rfl) axisWork_grantRead
    (.ite (fun _ _ _ => Iff.rfl) (axisWork_countStall i) axisWork_raiseSuspend)

/-! ### The turns -/

theorem axisWork_evaluateAxis (u : LaneUpdate) (i : AxisIdx) : AxisWork (evaluateAxis u i) := by
  have heval : AxisWork (fun s => s.setAxis i ((s.axis i).evaluate s u)) :=
    ⟨fun _ => ⟨rfl, rfl, rfl, rfl, rfl⟩, fun _ _ _ => rfl⟩
  exact .ite (fun _ _ _ => Iff.rfl) ((axisWork_postRead i).comp heval) heval

theorem axisWork_faultAxis (i : AxisIdx) (cause : FaultCause) : AxisWork (faultAxis i cause) :=
  .cases (fun s => s.clock.showLane) (fun _ _ _ => rfl) fun lane =>
    ⟨_, axisWork_resumeIfIdle.comp ((axisWork_raise (c := .axisFault i) nofun).comp
      (axisWork_onAxis i (Axis.enterFault cause lane))), fun s h => by rw [faultAxis, h]⟩

theorem axisWork_limitAxis (i : AxisIdx) (stop : EndStop) : AxisWork (limitAxis i stop) :=
  (axisWork_raise (c := .limit i) nofun).comp (axisWork_onAxis i _)

theorem axisWork_idleTurn (i : AxisIdx) : AxisWork (idleTurn i) :=
  (axisWork_handOver i 0).comp (axisWork_onAxis i _)

theorem axisWork_faultTurn (i : AxisIdx) (cause : FaultCause) : AxisWork (faultTurn i cause) :=
  (axisWork_handOver i 0).comp (axisWork_faultAxis i cause)

theorem axisWork_standingTurn (i : AxisIdx) : AxisWork (standingTurn i) :=
  (axisWork_handOver i 0).comp (axisWork_onAxis i _)

theorem axisWork_moveTurn (i : AxisIdx) : AxisWork (moveTurn i) :=
  .cases (fun s => s.axis i) (fun _ _ _ => rfl) fun a =>
    ⟨_, (axisWork_handOver i (stepCount a a.moveTowardTarget)).comp
      (axisWork_onAxis i Axis.moveTowardTarget), fun s h => by rw [moveTurn, h]⟩

theorem axisWork_drivenTurn (i : AxisIdx) : AxisWork (drivenTurn i) :=
  .ite (fun _ _ _ => Iff.rfl) ((axisWork_standingTurn i).comp (axisWork_limitAxis i .limPos))
    (.ite (fun _ _ _ => Iff.rfl) ((axisWork_standingTurn i).comp (axisWork_limitAxis i .limNeg))
      (.ite (fun _ _ _ => Iff.rfl) (axisWork_standingTurn i) (axisWork_moveTurn i)))

theorem axisWork_homingTurn (i : AxisIdx) : AxisWork (homingTurn i) :=
  .cases (fun s => s.axis i) (fun _ _ _ => rfl) fun a =>
    have hrest : ∀ (b : Axis) (n : Int),
        AxisWork (fun s => (handOver i n (s.setAxis i b)).onAxis i Axis.testCompletion) := fun b n =>
      (axisWork_onAxis i _).comp ((axisWork_handOver i n).comp (axisWork_onAxis i fun _ => b))
    ⟨_, .ite (c := fun _ => a.travelExceeded || a.homingMeetsStop .limPos || a.homingMeetsStop .limNeg)
      (fun _ _ _ => Iff.rfl) ((axisWork_handOver i 0).comp (axisWork_faultAxis i .homeFail))
      (.ite (c := fun _ => a.standsStill) (fun _ _ _ => Iff.rfl) (hrest { a with lag := false } 0)
        (hrest a.homingMove (stepCount a a.homingMove))), fun s h => by rw [homingTurn, h]⟩

theorem axisWork_evaluatingTurn (u : LaneUpdate) (i : AxisIdx) : AxisWork (evaluatingTurn u i) := by
  refine .cases (fun s => (s.axis i).state) (fun _ _ _ => rfl) fun x => ?_
  have hlimited : AxisWork (fun s =>
      if (s.axis i).isAway ∧ (s.axis i).remembered.isSome then
        drivenTurn i (s.onAxis i Axis.returnFromLimited)
      else standingTurn i s) :=
    .ite (fun _ _ _ => Iff.rfl) ((axisWork_drivenTurn i).comp (axisWork_onAxis i _))
      (axisWork_standingTurn i)
  cases x with
  | tracking =>
    exact ⟨_, (axisWork_drivenTurn i).comp (axisWork_evaluateAxis u i), fun s h => by
      rw [evaluatingTurn, h]⟩
  | limited => exact ⟨_, hlimited.comp (axisWork_evaluateAxis u i), fun s h => by rw [evaluatingTurn, h]⟩
  | ready => exact ⟨_, axisWork_drivenTurn i, fun s h => by rw [evaluatingTurn, h]⟩
  | frozen => exact ⟨_, axisWork_drivenTurn i, fun s h => by rw [evaluatingTurn, h]⟩
  | _ => exact ⟨_, .id, fun s h => by rw [evaluatingTurn, h]⟩

theorem axisWork_turnBody (u : LaneUpdate) (i : AxisIdx) : AxisWork (turnBody u i) := by
  refine .cases (fun s => (s.axis i).state) (fun _ _ _ => rfl) fun x => ?_
  have hactive : AxisWork (fun s =>
      if (s.axis i).inputActive .drvFault then faultTurn i .drive s
      else if (s.axis i).followFails then faultTurn i .follow s else evaluatingTurn u i s) :=
    .ite (fun _ _ _ => Iff.rfl) (axisWork_faultTurn i .drive)
      (.ite (fun _ _ _ => Iff.rfl) (axisWork_faultTurn i .follow) (axisWork_evaluatingTurn u i))
  have hhoming : AxisWork (fun s =>
      if (s.axis i).inputActive .drvFault then faultTurn i .drive s else homingTurn i s) :=
    .ite (fun _ _ _ => Iff.rfl) (axisWork_faultTurn i .drive) (axisWork_homingTurn i)
  cases x with
  | off => exact ⟨_, axisWork_idleTurn i, fun s h => by rw [turnBody, h]⟩
  | faulted => exact ⟨_, axisWork_idleTurn i, fun s h => by rw [turnBody, h]⟩
  | homing => exact ⟨_, hhoming, fun s h => by rw [turnBody, h]⟩
  | _ => exact ⟨_, hactive, fun s h => by rw [turnBody, h]⟩

/-- A turn changes axes, ports, Table Memory and the Attention Set alone, whatever work is in hand. -/
theorem axisWork_axisTurn (u : LaneUpdate) (i : AxisIdx) : AxisWork (axisTurn u i) :=
  (axisWork_onAxis i _).comp (axisWork_turnBody u i)

end Sys2Proof.Machine
end

section
/-! The work of a Lane Update, one step after the other, and the statement about its order (O13). -/

namespace Sys2Proof.Machine

/-! ### The work without a due cue (R19) -/

/-- The turns of `l`, one after the other. -/
theorem axisWork_turns (u : LaneUpdate) (l : List AxisIdx) :
    AxisWork (fun s => l.foldl (fun s i => axisTurn u i s) s) := by
  induction l with
  | nil => exact .id
  | cons i rest ih => exact ih.comp (axisWork_axisTurn u i)

/-- A step of the work where no turn is left ends it, or is a step of the firing pass. -/
theorem workStep_of_turns_nil {s : State} {w : UpdateWork} (h : s.work = some w) (ht : w.turns = []) :
    workStep s = if w.firing then passStep w s else s.setWork none := by
  simp only [workStep, h, ht]
  cases w.firing <;> rfl

/-- After the firing pass each step is the next turn. -/
theorem workStep_of_not_firing {s : State} {w : UpdateWork} {i : AxisIdx} {rest : List AxisIdx}
    (h : s.work = some w) (ht : w.turns = i :: rest) (hf : w.firing = false) :
    workStep s = turnStep w i rest s := by
  simp only [workStep, h, ht, hf]

/-- Where a turn and the firing pass are both to come, a step is one of either. -/
theorem workStep_of_firing {s : State} {w : UpdateWork} {i : AxisIdx} {rest : List AxisIdx}
    (h : s.work = some w) (ht : w.turns = i :: rest) (hf : w.firing = true) :
    workStep s = turnStep w i rest s.afterDraw ∨ workStep s = passStep w s.afterDraw := by
  simp only [workStep, h, ht, hf]
  split
  · exact .inr rfl
  · exact .inl rfl

/-- What is left of the work: it is at its end once no turn and no pass is left. -/
theorem workLeft_not_firing (u : LaneUpdate) (turns : List AxisIdx) :
    workLeft u turns false =
      if turns = [] then none else some { update := u, turns, firing := false } := by
  simp [workLeft]

theorem workLeft_firing (u : LaneUpdate) (turns : List AxisIdx) :
    workLeft u turns true = some { update := u, turns, firing := true } := by
  simp [workLeft]

theorem runWork_none {s : State} (h : s.work = none) (n : Nat) : runWork n s = s := by
  induction n with
  | zero => rfl
  | succ n ih => rw [runWork, workStep_none h, ih]

/-- The head of the Cue Queue, if there is one, is not due at Show lane value `t` (R153). -/
def NoneDue (t : Int) (s : State) : Prop := ∀ c rest, s.cues.records = c :: rest → t < c.time

/-- A firing pass that finds no due cue ends. -/
theorem passStep_of_noneDue {w : UpdateWork} {s : State} (h : NoneDue w.update.showLane s) :
    passStep w s = s.setWork (workLeft w.update w.turns false) := by
  rcases passStep_cases w s with ⟨c, rest, hc, hle, -⟩ | h'
  · exact absurd hle (not_le.2 (h c rest hc))
  · exact h'

theorem NoneDue.congr {t : Int} {s s' : State} (h : NoneDue t s)
    (hr : s'.cues.records = s.cues.records) : NoneDue t s' := by
  unfold NoneDue
  rw [hr]
  exact h

/-- With no cue due the steps of the work are its turns in order, whenever its firing pass ends. -/
theorem runWork_turns (u : LaneUpdate) {n d : Nat} {s : State} {turns : List AxisIdx} {firing : Bool}
    (hdue : NoneDue u.showLane s) (hn : turns.length + firing.toNat + 1 ≤ n) :
    ∃ d', runWork n (s.withWork (workLeft u turns firing) d) =
      (turns.foldl (fun s i => axisTurn u i s) s).withWork none d' := by
  induction n generalizing s d turns firing with
  | zero => omega
  | succ n ih =>
    have hpass : ∀ x d, passStep { update := u, turns, firing } (s.withWork x d) =
        s.withWork (workLeft u turns false) d := fun x d =>
      passStep_of_noneDue (s := s.withWork x d) hdue
    cases turns with
    | nil =>
      refine ⟨d, ?_⟩
      cases firing with
      | false => exact runWork_none rfl _
      | true =>
        rw [runWork, workStep_of_turns_nil (w := { update := u, turns := [], firing := true }) rfl rfl,
          if_pos rfl, hpass]
        exact runWork_none rfl _
    | cons i rest =>
      have hturn : ∀ d, turnStep { update := u, turns := i :: rest, firing } i rest
            (s.withWork (workLeft u (i :: rest) firing) d) =
          (axisTurn u i s).withWork (workLeft u rest firing) d := fun d =>
        (axisWork_axisTurn u i).blind s _ d
      have hnext : NoneDue u.showLane (axisTurn u i s) :=
        hdue.congr ((axisWork_axisTurn u i).aside s).records
      rw [List.length_cons] at hn
      rw [runWork]
      cases firing with
      | false =>
        rw [workStep_of_not_firing rfl rfl rfl, hturn]
        exact ih hnext (by simpa using hn)
      | true =>
        have hdraw : (s.withWork (workLeft u (i :: rest) true) d).afterDraw =
            s.withWork (workLeft u (i :: rest) true) (d + 1) := rfl
        rcases workStep_of_firing (s := s.withWork (workLeft u (i :: rest) true) d) rfl rfl rfl
          with h | h <;> rw [h, hdraw]
        · rw [hturn]
          exact ih hnext (by simpa using hn)
        · rw [hpass]
          exact ih hdue (by simpa using hn)

theorem stepsLeft_of_some {s : State} {w : UpdateWork} (h : s.work = some w) :
    stepsLeft s = w.turns.length + s.cues.records.length + 2 := by
  simp [stepsLeft, h]

/-- The whole work in hand, where no cue is due, is its turns in order. -/
theorem finishWork_of_noneDue {s : State} {w : UpdateWork} (h : s.work = some w)
    (hdue : NoneDue w.update.showLane s) :
    ∃ d, finishWork s =
      { w.turns.foldl (fun s i => axisTurn w.update i s) { s with work := none } with draws := d } := by
  have hsteps := stepsLeft_of_some h
  have hfold : ∀ d, (w.turns.foldl (fun s i => axisTurn w.update i s) s).withWork none d =
      { w.turns.foldl (fun s i => axisTurn w.update i s) { s with work := none } with draws := d } := by
    intro d
    have hblind := (axisWork_turns w.update w.turns).blind s none s.draws
    rw [show ({ s with work := none } : State) = s.withWork none s.draws from rfl, hblind]
    rfl
  simp only [← hfold]
  by_cases hend : w.turns = [] ∧ w.firing = false
  · refine ⟨s.draws, ?_⟩
    rw [finishWork, hsteps, runWork, workStep_of_turns_nil h hend.1, hend.2, hend.1]
    exact runWork_none rfl _
  · have hw : s = s.withWork (workLeft w.update w.turns w.firing) s.draws := by
      rw [workLeft, if_neg hend, ← h]
      rfl
    have hfiring := w.firing.toNat_le
    have hrun := runWork_turns w.update (n := stepsLeft s) (d := s.draws) (turns := w.turns)
      (firing := w.firing) hdue (by omega)
    rw [← hw] at hrun
    exact hrun

/-! ### A LANE_UPDATE -/

/-- The state a LANE_UPDATE works on from the end of the update before (R2, R19). -/
theorem exec_laneUpdate {s : State} (hp : s.power = .on) :
    exec .laneUpdate s =
      .next (runWork (Config.stepsAtOnce (beginUpdate (finishWork s)).draws)
        (beginUpdate (finishWork s)).afterDraw) := by
  simp [exec, execLaneUpdate, laneUpdate, hp]

/-- Settles O13: the update that begins, one step of its work, and the work without a due cue. -/
theorem turnsComeInAscendingOrder : Obligations.TurnsComeInAscendingOrder := by
  refine ⟨?_, ?_, fun s => ⟨rfl, fun _ => rfl⟩, fun s w h hdue => finishWork_of_noneDue h hdue⟩
  · rintro s u hp hw rfl
    refine ⟨⟨Config.stepsAtOnce (beginUpdate s).draws, ?_⟩, s.clock.settleSky_mark, ?_⟩
    · rw [exec_laneUpdate hp, finishWork_none hw, beginUpdate]
      rcases settleLanes_cases s with h | h <;> rw [h] <;> rfl
    · refine (SkyClock.settleShow_mark s.clock.settleSky.1).trans ?_
      rw [SkyClock.settleSky_frame]
  · rintro s ⟨u, turns, firing⟩ i rest h ht
    refine ⟨fun hf => ?_, fun hf => ?_⟩
    · rw [workStep_of_not_firing h ht hf, turnStep]
      dsimp only at hf ⊢
      rw [hf, workLeft_not_firing]
      rfl
    · dsimp only at hf
      subst hf
      rcases workStep_of_firing h ht rfl with h' | h'
      · left
        rw [h', turnStep, workLeft_firing]
        rfl
      · exact .inr h'

end Sys2Proof.Machine
end

section
/-! What the work of a Lane Update may change in the Sky Clock, that it ends, and the statement about the lanes
(O12). -/

namespace Sys2Proof.Machine

/-! ### The requests a cue may make -/

theorem aside_onAxisIndex (axis : Byte) {s : State} {f : AxisIdx → Result}
    (h : ∀ i, Aside s (f i).state) : Aside s (onAxisIndex axis s f).state := by
  rcases onAxisIndex_cases axis s f with h' | ⟨i, h'⟩ <;> rw [h']
  · exact .refl s
  · exact h i

section
variable (s : State)

theorem aside_answerDone (i : AxisIdx) (f : Axis → Axis) : Aside s (answerDone (s.onAxis i f)).state :=
  aside_onAxis i f s

theorem aside_answerData (data : List Byte) (i : AxisIdx) (f : Axis → Axis) :
    Aside s (answerData data (s.onAxis i f)).state :=
  aside_onAxis i f s

theorem aside_doEnable (axis : Byte) : Aside s (doEnable axis s).state := by
  refine aside_onAxisIndex axis fun i => ?_
  split
  · exact .refl s
  · exact aside_answerDone s i _

theorem aside_doDisable (axis : Byte) : Aside s (doDisable axis s).state := by
  refine aside_onAxisIndex axis fun i => ?_
  split
  · exact .refl s
  · exact .refl s
  all_goals exact (aside_onAxis i _ s).trans (axisWork_resumeIfIdle.aside _)

theorem aside_doTrack (axis : Byte) : Aside s (doTrack axis s).state := by
  refine aside_onAxisIndex axis fun i => ?_
  split
  · exact .refl s
  · exact aside_answerDone s i _

theorem aside_doStop (axis : Byte) : Aside s (doStop axis s).state := by
  refine aside_onAxisIndex axis fun i => ?_
  split
  iterate 3 exact aside_answerDone s i _
  all_goals exact .refl s

theorem aside_doAxisLaw (axis kind : Byte) (body : LawBody) : Aside s (doAxisLaw axis kind body s).state := by
  refine aside_onAxisIndex axis fun i => ?_
  split
  · exact .refl s
  · rename_i law _
    split
    · exact .refl s
    · split
      · exact .refl s
      · have hbind : Aside s
            ({ s with memory := s.memory.rebind i (s.axis i).law law }.onAxis i (Axis.bindLaw law)) :=
          ⟨rfl, rfl, rfl, rfl, rfl⟩
        exact hbind.trans (axisWork_resumeIfIdle.aside _)

theorem aside_doMove (axis : Byte) (endPosition arrival : BitVec 64) :
    Aside s (doMove axis endPosition arrival s).state := by
  refine aside_onAxisIndex axis fun i => ?_
  split
  · exact .refl s
  · split
    · exact .refl s
    · exact aside_answerData s _ i _

theorem aside_doFlush (axis : Byte) : Aside s (doFlush axis s).state :=
  aside_onAxisIndex axis fun i => aside_answerData s _ i _

end

/-! ### What the work may change in the Sky Clock -/

/-- A part of the work that carries out requests of the kinds `kinds`: the lanes, the rate, the clock's state,
its settings and its line filters stand, and each of the other fields changes only by a request of its own. -/
structure WorkFrame (kinds : Byte → Prop) (s t : State) : Prop where
  power : t.power = s.power
  skyLimit : t.link.attention.skyLimit = s.link.attention.skyLimit
  clock : t.clock =
    { s.clock with
      ramp := t.clock.ramp, pendingSky := t.clock.pendingSky, pendingShow := t.clock.pendingShow
      softHold := t.clock.softHold }
  ramp : ¬kinds 0x06 → t.clock.ramp = s.clock.ramp
  pendingSky : ¬kinds 0x05 → t.clock.pendingSky = s.clock.pendingSky
  pendingShow : ¬kinds 0x07 → t.clock.pendingShow = s.clock.pendingShow
  softHold : ¬kinds 0x03 → ¬kinds 0x04 → t.clock.softHold = s.clock.softHold

section
variable {kinds : Byte → Prop} {s t u : State}

/-- What stays aside from the clock is such a part, of no request. -/
theorem WorkFrame.of_clock (hp : t.power = s.power) (hc : t.clock = s.clock)
    (hl : t.link.attention.skyLimit = s.link.attention.skyLimit) : WorkFrame kinds s t := by
  refine ⟨hp, hl, ?_, fun _ => ?_, fun _ => ?_, fun _ => ?_, fun _ _ => ?_⟩ <;> rw [hc]

theorem Aside.workFrame (h : Aside s t) : WorkFrame kinds s t := .of_clock h.power h.clock h.skyLimit

/-- A field of the clock that no request of a cue writes. -/
theorem WorkFrame.field {α : Type} (h : WorkFrame kinds s t) (g : SkyClock → α)
    (hg : ∀ k ramp sky showing hold, g
      { k with ramp := ramp, pendingSky := sky, pendingShow := showing, softHold := hold } = g k) :
    g t.clock = g s.clock := by
  rw [h.clock, hg]

theorem WorkFrame.trans (h : WorkFrame kinds s t) (h' : WorkFrame kinds t u) : WorkFrame kinds s u where
  power := h'.power.trans h.power
  skyLimit := h'.skyLimit.trans h.skyLimit
  clock := by rw [h'.clock, h.clock]
  ramp hk := (h'.ramp hk).trans (h.ramp hk)
  pendingSky hk := (h'.pendingSky hk).trans (h.pendingSky hk)
  pendingShow hk := (h'.pendingShow hk).trans (h.pendingShow hk)
  softHold h₃ h₄ := (h'.softHold h₃ h₄).trans (h.softHold h₃ h₄)

theorem WorkFrame.mono {kinds' : Byte → Prop} (h : WorkFrame kinds s t) (hk : ∀ k, kinds k → kinds' k) :
    WorkFrame kinds' s t where
  power := h.power
  skyLimit := h.skyLimit
  clock := h.clock
  ramp h' := h.ramp (h' ∘ hk _)
  pendingSky h' := h.pendingSky (h' ∘ hk _)
  pendingShow h' := h.pendingShow (h' ∘ hk _)
  softHold h₃ h₄ := h.softHold (h₃ ∘ hk _) (h₄ ∘ hk _)

end

/-- A hold handed on reaches the axes alone. -/
theorem aside_handHold (before : Bool) (s : State) : Aside s (handHold before s) := by
  unfold handHold
  split <;> exact ⟨rfl, rfl, rfl, rfl, rfl⟩

/-- What a request of kind `kind` that a cue may make does. -/
structure Performs (kind : Byte) (s t : State) : Prop extends WorkFrame (· = kind) s t where
  records : t.cues.records = s.cues.records
  work : t.work = s.work

theorem Aside.performs {kind : Byte} {s t : State} (h : Aside s t) : Performs kind s t :=
  ⟨h.workFrame, h.records, h.work⟩

theorem performs_setSoftHold {kind : Byte} (on : Bool) (s : State) (h : kind = 0x03 ∨ kind = 0x04) :
    Performs kind s (setSoftHold on s) := by
  have hclock : WorkFrame (· = kind) s (s.setClock { s.clock with softHold := on }) :=
    ⟨rfl, rfl, rfl, fun _ => rfl, fun _ => rfl, fun _ => rfl,
      fun h₃ h₄ => (h.elim (h₃ ∘ Eq.symm) (h₄ ∘ Eq.symm)).elim⟩
  have hhand := aside_handHold s.clock.holdInForce (s.setClock { s.clock with softHold := on })
  exact ⟨hclock.trans hhand.workFrame, hhand.records, hhand.work⟩

theorem performs_performCueable (r : CueRequest) (s : State) :
    Performs r.kind s (performCueable r s).state := by
  cases r with
  | skySet value =>
    exact ⟨⟨rfl, rfl, rfl, fun _ => rfl, fun h => absurd rfl h, fun _ => rfl, fun _ _ => rfl⟩, rfl, rfl⟩
  | showSet value =>
    exact ⟨⟨rfl, rfl, rfl, fun _ => rfl, fun _ => rfl, fun h => absurd rfl h, fun _ _ => rfl⟩, rfl, rfl⟩
  | skyRate endRate length =>
    exact ⟨⟨rfl, rfl, rfl, fun h => absurd rfl h, fun _ => rfl, fun _ => rfl, fun _ _ => rfl⟩, rfl, rfl⟩
  | hold => exact performs_setSoftHold true s (.inl rfl)
  | release => exact performs_setSoftHold false s (.inr rfl)
  | axisLaw axis kind body => exact (aside_doAxisLaw s axis kind body).performs
  | enable axis => exact (aside_doEnable s axis).performs
  | disable axis => exact (aside_doDisable s axis).performs
  | track axis => exact (aside_doTrack s axis).performs
  | stop axis => exact (aside_doStop s axis).performs
  | move axis endPosition arrival => exact (aside_doMove s axis endPosition arrival).performs
  | flush axis => exact (aside_doFlush s axis).performs

/-- A fired cue does what its request does; the record of a refusal is beside it (R154, R155). -/
theorem performs_fireCue (c : CueRecord) (s : State) : Performs c.request.kind s (fireCue c s) := by
  have h := performs_performCueable c.request s
  unfold fireCue
  dsimp only
  split
  · exact h
  · exact ⟨h.toWorkFrame.trans (.of_clock rfl rfl rfl), h.records, h.work⟩

/-! ### One step of the work, and all of it -/

/-- The kinds of the requests that the waiting cues make. -/
def State.cueKinds (s : State) (kind : Byte) : Prop := ∃ c ∈ s.cues.records, c.request.kind = kind

/-- What some of the work does: it fires cues from the head of the queue, and leaves the others. -/
structure Worked (s t : State) : Prop extends WorkFrame s.cueKinds s t where
  records : t.cues.records <:+ s.cues.records

theorem Worked.trans {s t u : State} (h : Worked s t) (h' : Worked t u) : Worked s u where
  toWorkFrame := h.toWorkFrame.trans (h'.toWorkFrame.mono fun _ ⟨c, hc, hk⟩ =>
    ⟨c, h.records.subset hc, hk⟩)
  records := h'.records.trans h.records

theorem Worked.of_clock {s t : State} (hp : t.power = s.power) (hc : t.clock = s.clock)
    (hl : t.link.attention.skyLimit = s.link.attention.skyLimit)
    (hr : t.cues.records = s.cues.records) : Worked s t :=
  ⟨.of_clock hp hc hl, by rw [hr]⟩

theorem worked_fireCue {s : State} {c : CueRecord} {rest : List CueRecord}
    (h : s.cues.records = c :: rest) : Worked s (fireCue c (s.setCues rest)) := by
  have hfire := performs_fireCue c (s.setCues rest)
  have hfirst : WorkFrame s.cueKinds s (s.setCues rest) := .of_clock rfl rfl rfl
  refine ⟨hfirst.trans (hfire.toWorkFrame.mono ?_), ?_⟩
  · rintro k rfl
    exact ⟨c, by simp [h], rfl⟩
  · rw [hfire.records, h]
    exact List.suffix_cons c rest

theorem worked_afterDraw (s : State) : Worked s s.afterDraw := .of_clock rfl rfl rfl rfl

theorem worked_passStep (w : UpdateWork) (s : State) : Worked s (passStep w s) := by
  rcases passStep_cases w s with ⟨c, rest, hc, -, h⟩ | h <;> rw [h]
  · exact worked_fireCue hc
  · exact .of_clock rfl rfl rfl rfl

theorem worked_turnStep (w : UpdateWork) (i : AxisIdx) (rest : List AxisIdx) (s : State) :
    Worked s (turnStep w i rest s) := by
  have h := (axisWork_axisTurn w.update i).aside (s.setWork (workLeft w.update rest w.firing))
  exact .of_clock h.power h.clock h.skyLimit h.records

theorem worked_workStep (s : State) : Worked s (workStep s) := by
  rcases workStep_cases s with ⟨-, h⟩ | ⟨w, -, ⟨-, -, h⟩ | ⟨-, h | h⟩ | ⟨i, rest, -, h | h⟩⟩ <;> rw [h]
  · exact .of_clock rfl rfl rfl rfl
  · exact .of_clock rfl rfl rfl rfl
  · exact worked_passStep w s
  · exact (worked_afterDraw s).trans (worked_passStep w _)
  · exact worked_turnStep w i rest s
  · exact (worked_afterDraw s).trans (worked_turnStep w i rest _)

theorem worked_runWork (n : Nat) (s : State) : Worked s (runWork n s) := by
  induction n generalizing s with
  | zero => exact .of_clock rfl rfl rfl rfl
  | succ n ih => exact (worked_workStep s).trans (ih _)

/-- How many steps the work in hand may still take: one for each turn and each cue, and its ends. -/
def stepBound (s : State) : Nat :=
  match s.work with
  | none => 0
  | some w => w.turns.length + s.cues.records.length + w.firing.toNat + 1

theorem stepBound_of_some {s : State} {w : UpdateWork} (h : s.work = some w) :
    stepBound s = w.turns.length + s.cues.records.length + w.firing.toNat + 1 := by
  simp [stepBound, h]

theorem stepBound_of_workLeft {t : State} {u : LaneUpdate} {turns : List AxisIdx} {firing : Bool}
    (h : t.work = workLeft u turns firing) :
    stepBound t ≤ turns.length + t.cues.records.length + firing.toNat + 1 := by
  unfold workLeft at h
  split at h
  · simp [stepBound, h]
  · rw [stepBound_of_some h]

/-- A step of the firing pass takes a cue from the queue, or ends the pass. -/
theorem stepBound_passStep {s : State} {w : UpdateWork} (h : s.work = some w) (hf : w.firing = true) :
    stepBound (passStep w s) < stepBound s := by
  rw [stepBound_of_some h, hf]
  rcases passStep_cases w s with ⟨c, rest, hc, -, h'⟩ | h' <;> rw [h']
  · have hfire := performs_fireCue c (s.setCues rest)
    rw [stepBound_of_some (hfire.work.trans h), hfire.records, hf, hc]
    simp
  · have hleft := stepBound_of_workLeft
      (t := s.setWork (workLeft w.update w.turns false)) (u := w.update) rfl
    simp only [State.setWork_cues, Bool.toNat_false, Bool.toNat_true] at hleft ⊢
    omega

/-- A turn is one turn less to come. -/
theorem stepBound_turnStep {s : State} {w : UpdateWork} {i : AxisIdx} {rest : List AxisIdx}
    (h : s.work = some w) (ht : w.turns = i :: rest) :
    stepBound (turnStep w i rest s) < stepBound s := by
  have haside := (axisWork_axisTurn w.update i).aside (s.setWork (workLeft w.update rest w.firing))
  have hleft := stepBound_of_workLeft (t := turnStep w i rest s) haside.work
  rw [stepBound_of_some h, ht]
  rw [turnStep, haside.records] at hleft
  rw [turnStep]
  simp only [State.setWork_cues, List.length_cons] at hleft ⊢
  omega

theorem stepBound_workStep {s : State} (h : s.work ≠ none) : stepBound (workStep s) < stepBound s := by
  rcases workStep_cases s with ⟨hn, -⟩ | ⟨w, hw, ⟨ht, hf, h'⟩ | ⟨hf, h' | h'⟩ | ⟨i, rest, ht, h' | h'⟩⟩
  · exact absurd hn h
  all_goals rw [h']
  · rw [stepBound_of_some hw]
    exact Nat.succ_pos _
  · exact stepBound_passStep hw hf
  · exact stepBound_passStep (s := s.afterDraw) hw hf
  · exact stepBound_turnStep hw ht
  · exact stepBound_turnStep (s := s.afterDraw) hw ht

/-- Enough steps bring the work to its end. -/
theorem runWork_work {n : Nat} {s : State} (h : stepBound s ≤ n) : (runWork n s).work = none := by
  induction n generalizing s with
  | zero =>
    cases hw : s.work with
    | none => exact hw
    | some w =>
      rw [stepBound_of_some hw] at h
      omega
  | succ n ih =>
    by_cases hw : s.work = none
    · rw [runWork_none hw]
      exact hw
    · have hless := stepBound_workStep hw
      exact ih (by omega)

theorem finishWork_work (s : State) : (finishWork s).work = none := by
  cases hw : s.work with
  | none => rw [finishWork_none hw, hw]
  | some w =>
    have hfiring := w.firing.toNat_le
    refine runWork_work ?_
    rw [stepBound_of_some hw, stepsLeft_of_some hw]
    omega

/-! ### A LANE_UPDATE with no work in hand -/

/-- The Sky Limit cause after an update begins. -/
theorem beginUpdate_skyLimit (s : State) :
    (beginUpdate s).link.attention.skyLimit =
      (s.link.attention.skyLimit || s.clock.saturates) := by
  cases h : s.clock.saturates <;> simp [beginUpdate, settleLanes, h, Attention.raise]

theorem beginUpdate_clock (s : State) :
    (beginUpdate s).clock = s.clock.settle.1 ∧ (beginUpdate s).power = s.power := by
  unfold beginUpdate
  rcases settleLanes_cases s with h | h <;> rw [h] <;> exact ⟨rfl, rfl⟩

/-- A LANE_UPDATE with no work in hand settles the lanes and does some of the work, whose requests are those of
the waiting cues. -/
theorem exec_laneUpdate_cases {s : State} (hp : s.power = .on) (hw : s.work = none) :
    ∃ t, exec .laneUpdate s = .next t ∧ WorkFrame s.cueKinds (beginUpdate s) t ∧
      s.memory.Calm t.memory ∧ ∃ x, t.link = { s.link with attention := x } := by
  obtain ⟨hmemory, -, hcues, -⟩ := beginUpdate_rest s
  have hexec := exec_laneUpdate hp
  rw [finishWork_none hw] at hexec
  generalize Config.stepsAtOnce _ = n at hexec
  have hwork := (worked_afterDraw (beginUpdate s)).trans (worked_runWork n _)
  have hruns := runs_runWork n (beginUpdate s).afterDraw
  refine ⟨_, hexec, hwork.toWorkFrame.mono ?_, ?_, ?_⟩
  · intro k hk
    rwa [State.cueKinds, hcues] at hk
  · rw [← hmemory]
    exact hruns.memory
  · obtain ⟨x, hx⟩ := (frame_beginUpdate s).link
    obtain ⟨y, hy⟩ := hruns.frame.link
    exact ⟨y, by rw [hy, State.afterDraw_link, hx]⟩

/-- Settles O12: the work of before ends, the lanes settle by their tables, and the work may change no more of
the clock than its cues ask for. -/
theorem laneUpdateSettlesTheLanes : Obligations.LaneUpdateSettlesTheLanes := by
  refine ⟨fun s hp => ⟨finishWork_work s, ?_⟩, ?_⟩
  · have hp' : (finishWork s).power = .on := (worked_runWork _ s).power.trans hp
    rw [exec_laneUpdate hp, exec_laneUpdate hp', finishWork_none (finishWork_work s)]
  · intro s hp hw advances rate ramp hadv hstand hstep
    have hA : advances ↔ s.clock.Advancing := hadv.trans s.clock.advancing_iff.symm
    simp only [hA] at hstand hstep ⊢
    obtain ⟨hrate, hramp⟩ := SkyClock.settle_ramp hstand hstep
    obtain ⟨t, hexec, hframe, hmemory, x, hlink⟩ := exec_laneUpdate_cases hp hw
    obtain ⟨hbegin, hpower⟩ := beginUpdate_clock s
    have hkeeps := s.clock.settle_keeps
    have hlimit := hframe.skyLimit.trans (beginUpdate_skyLimit s)
    have hsat := s.clock.saturates_iff
    rw [hrate] at hsat
    have hnone : ∀ kind, (∀ c ∈ s.cues.records, c.request.kind ≠ kind) → ¬s.cueKinds kind :=
      fun kind h ⟨c, hc, hk⟩ => h c hc hk
    have hsky := hframe.field (·.skyLane) fun _ _ _ _ _ => rfl
    have hshow := hframe.field (·.showLane) fun _ _ _ _ _ => rfl
    have hflag := hframe.field (·.skyLimit) fun _ _ _ _ _ => rfl
    have hrate' := hframe.field (·.rate) fun _ _ _ _ _ => rfl
    rw [hbegin] at hsky hshow hflag hrate'
    rw [s.clock.settle_skyLimit] at hflag
    refine ⟨t, hexec, hrate'.trans hrate, fun h => ?_, fun h => ?_, fun h => ?_, fun h => ?_,
      fun x h => ?_, fun h hna => ?_, fun ha => ⟨?_, fun hout => ?_⟩, fun h => ?_, fun x h => ?_, fun h => ?_,
      ?_, ?_, ?_, ?_, hmemory.images, hmemory.records, hmemory.staging, hmemory.rewrite, ?_,
      hframe.power.trans hpower⟩
    · rw [hframe.ramp (hnone _ h), hbegin, hramp]
    · rw [hframe.pendingSky (hnone _ h), hbegin, SkyClock.settle_pendingSky]
    · rw [hframe.pendingShow (hnone _ h), hbegin, SkyClock.settle_pendingShow]
    · rw [hframe.softHold (hnone _ fun c hc => (h c hc).1) (hnone _ fun c hc => (h c hc).2), hbegin, hkeeps]
    · have hna : ¬s.clock.Advancing := fun ha => by simp [ha.1] at h
      obtain ⟨-, -, hlane, -⟩ := SkyClock.settle_of_not_advancing hna
      rw [hsky, hlane, h]
      rfl
    · obtain ⟨-, -, hlane, -⟩ := SkyClock.settle_of_not_advancing hna
      rw [hsky, hlane, h]
      rfl
    · obtain ⟨hr, -, hlane, -⟩ := SkyClock.settle_of_advancing ha
      rw [hsky, hlane, ← hr, hrate, sat64_eq_max_min]
    · rw [hflag, hlimit, hsat.2 ⟨ha, hout⟩, Bool.or_true, Bool.or_true]
      exact ⟨rfl, rfl⟩
    · have hnot : s.clock.saturates = false := by
        rw [Bool.eq_false_iff, ne_eq, hsat]
        rintro ⟨ha, hout⟩
        rcases h with h | h
        · exact h ha
        · omega
      rw [hflag, hlimit, hnot, Bool.or_false, Bool.or_false]
      exact ⟨rfl, rfl⟩
    · rw [hshow, s.clock.settle_showLane_of_pending h]
    · rw [hshow, s.clock.settle_showLane_of_none h]
    · exact (hframe.field (·.state) fun _ _ _ _ _ => rfl).trans (by rw [hbegin, hkeeps])
    · exact (hframe.field (·.settings) fun _ _ _ _ _ => rfl).trans (by rw [hbegin, hkeeps])
    · exact (hframe.field (·.holdLine) fun _ _ _ _ _ => rfl).trans (by rw [hbegin, hkeeps])
    · exact (hframe.field (·.haltLine) fun _ _ _ _ _ => rfl).trans (by rw [hbegin, hkeeps])
    · rw [hlink]

end Sys2Proof.Machine
end

section
/-! The law stages of a LINEAR, a COUPLED and a CUED axis (spec/02), and the statements about them (O16,
O18). -/

namespace Sys2Proof.Machine

/-! ### LINEAR and COUPLED (R23, R26) -/

theorem linearTarget_eq (phase rate epoch t : Int) :
    linearTarget phase rate epoch t =
      max (-2 ^ 63) (min (2 ^ 63 - 1) (phase + Int.fdiv ((t - epoch) * rate) (2 ^ 48))) :=
  sat64_eq_max_min _

theorem coupledTarget_eq (source numerator : Int) (denominator : Nat) (phase : Int) :
    coupledTarget source numerator denominator phase =
      max (-2 ^ 63) (min (2 ^ 63 - 1) (phase + Int.fdiv (source * numerator) denominator)) :=
  sat64_eq_max_min _

section
variable {a : Axis} (s : State) (t : Int)

theorem Axis.lawStage_of_linear {phase rate epoch : Int} (h : a.law = .linear phase rate epoch) :
    a.lawStage s t = ({ a with p := linearTarget phase rate epoch t }, true) := by
  simp only [Axis.lawStage, h]

theorem Axis.lawStage_of_coupled {source : AxisIdx} {numerator phase : Int} {denominator : Nat}
    (h : a.law = .coupled source numerator denominator phase) :
    a.lawStage s t =
      ({ a with
         p := coupledTarget (s.axis source).p numerator denominator phase
         sourceHeld := decide ((s.axis source).state ≠ .tracking) }, true) := by
  simp only [Axis.lawStage, h]

theorem Axis.lawStage_of_cued (h : a.law = .cued) : a.lawStage s t = (a.cuedLaw t, true) := by
  simp only [Axis.lawStage, h]

end

/-- The stages after the law stage leave P (R19). -/
theorem Axis.rebase_p (setP : Bool) (a : Axis) : (a.rebase setP).p = a.p := by
  unfold Axis.rebase
  split <;> rfl

theorem Axis.gear_p (a : Axis) : a.gear.p = a.p := by
  unfold Axis.gear
  split <;> rfl

theorem Axis.evaluate_p (s : State) (u : LaneUpdate) (a : Axis) :
    (a.evaluate s u).p =
      (Axis.lawStage s (u.time a.motion.lane)
        { a with rebaseDue := a.rebaseDue || u.mark a.motion.lane }).1.p :=
  (Axis.gear_p _).trans (Axis.rebase_p _ _)

/-- Settles O16: of the stages of an evaluation the law stage alone sets P. -/
theorem linearLawSetsTheTarget : Obligations.LinearLawSetsTheTarget := by
  refine ⟨fun u => ⟨rfl, rfl⟩, fun s u t a phase rate epoch h => ?_⟩
  have heval : (a.evaluate s u).p = linearTarget phase rate epoch (u.time a.motion.lane) := by
    rw [Axis.evaluate_p, Axis.lawStage_of_linear s _ (by exact h)]
  refine ⟨?_, ?_, fun hrate hlow hhigh => ?_⟩
  · rw [Axis.lawStage_of_linear s t h, linearTarget_eq]
  · rw [heval, Axis.lawStage_of_linear s _ h]
  · rw [heval, linearTarget_eq, hrate, Int.mul_zero, Int.zero_fdiv]
    omega

/-! ### The head of a CUED axis (R28 to R31) -/

section
variable {t p : Int} {m : Move} {rest : List Move} {start : Option HeadStart} {h : HeadStart} {late : Bool}

/-- A head that arrives no later than its start time is done late (R31). -/
theorem cuedStage_of_past (hs : start.getD { time := t, position := p } = h) (ha : m.arrival ≤ h.time) :
    cuedStage t (m :: rest) start p late =
      cuedStage t rest (some { time := m.arrival, position := m.position }) m.position true := by
  simp [cuedStage, hs, ha]

/-- A head whose arrival has come is done (R30). -/
theorem cuedStage_of_arrived (hs : start.getD { time := t, position := p } = h)
    (hlate : h.time < m.arrival) (ha : m.arrival ≤ t) :
    cuedStage t (m :: rest) start p late =
      cuedStage t rest (some { time := m.arrival, position := m.position }) m.position late := by
  simp [cuedStage, hs, Int.not_le.2 hlate, ha]

/-- A head under way gives the position between its start and its end (R29). -/
theorem cuedStage_of_underWay (hs : start.getD { time := t, position := p } = h) (hbegun : h.time ≤ t)
    (ha : t < m.arrival) :
    cuedStage t (m :: rest) start p late =
      { p := max (-2 ^ 63) (min (2 ^ 63 - 1) (h.position +
          Int.fdiv ((t - h.time) * (m.position - h.position)) (m.arrival - h.time)))
        moves := m :: rest, headStart := some h, late := late } := by
  have hlate : ¬m.arrival ≤ h.time := by omega
  simp only [cuedStage, hs, hlate, Int.not_le.2 ha, Int.not_lt.2 hbegun, if_false, sat64_eq_max_min]
  rfl

/-- A head whose start lies ahead holds its start position (R29). -/
theorem cuedStage_of_ahead (hs : start.getD { time := t, position := p } = h) (hahead : t < h.time)
    (hlate : h.time < m.arrival) :
    cuedStage t (m :: rest) start p late =
      { p := h.position, moves := m :: rest, headStart := some h, late := late } := by
  have ha : ¬m.arrival ≤ t := by omega
  simp [cuedStage, hs, Int.not_le.2 hlate, ha, hahead]

/-- A due head is done, late or not, and the next starts where and when it ended (R28, R30, R31). -/
theorem cuedStage_of_due (ha : m.arrival ≤ t) :
    ∃ late', cuedStage t (m :: rest) start p late =
      cuedStage t rest (some { time := m.arrival, position := m.position }) m.position late' := by
  rcases Int.lt_or_le (start.getD { time := t, position := p }).time m.arrival with h | h
  · exact ⟨late, cuedStage_of_arrived rfl h ha⟩
  · exact ⟨true, cuedStage_of_past rfl h⟩

end

/-- A run of due moves is done in one update, and the last gives P (R30, R31). -/
theorem cuedStage_of_all_due {t : Int} {moves : List Move} {last : Move}
    (hdue : ∀ m ∈ moves ++ [last], m.arrival ≤ t) (start : Option HeadStart) (p : Int) (late : Bool) :
    ∃ late', cuedStage t (moves ++ [last]) start p late =
      { p := last.position, moves := [], headStart := none, late := late' } := by
  induction moves generalizing start p late with
  | nil =>
    obtain ⟨late', h⟩ := cuedStage_of_due (rest := []) (start := start) (p := p) (late := late)
      (hdue last (by simp))
    exact ⟨late', h⟩
  | cons m rest ih =>
    obtain ⟨late', h⟩ := cuedStage_of_due (rest := rest ++ [last]) (start := start) (p := p)
      (late := late) (hdue m (by simp))
    rw [List.cons_append, h]
    exact ih (fun n hn => hdue n (List.mem_cons_of_mem _ hn)) _ _ _

/-- Settles O18: the head by its cases, and a run of due heads by induction on the queue. -/
theorem coupledAndCuedLawsSetTheTarget : Obligations.CoupledAndCuedLawsSetTheTarget := by
  refine ⟨fun s t a source numerator phase denominator h => ?_,
    fun s t a h => Axis.lawStage_of_cued s t h, fun _ _ _ _ => rfl, ?_, ?_⟩
  · rw [Axis.lawStage_of_coupled s t h, coupledTarget_eq]
  · intro t p m rest start h late hstart
    have hs : start.getD { time := t, position := p } = h := by
      rcases hstart with rfl | ⟨rfl, rfl⟩ <;> rfl
    exact ⟨cuedStage_of_past hs, cuedStage_of_arrived hs, cuedStage_of_underWay hs,
      cuedStage_of_ahead hs⟩
  · intro t p moves last start late hdue
    obtain ⟨late', h⟩ := cuedStage_of_all_due hdue start p late
    rw [h]
    exact ⟨rfl, rfl, rfl⟩

end Sys2Proof.Machine
end

section
/-! MOVE, FLUSH, AXIS_LAW and AXIS_MOTION_CONFIG (spec/02, spec/06), and the statements about them (O26, O27,
O28). -/

namespace Sys2Proof.Machine

/-! ### MOVE and FLUSH (R27, R32) -/

/-- What MOVE does on the axis it names: its checks in their order, then the record at the tail. -/
theorem doMove_of_names {axis : Byte} {i : AxisIdx} (hn : Names axis i) (x y : BitVec 64) (s : State) :
    doMove axis x y s =
      if (s.axis i).law ≠ .cued ∨ (s.axis i).state = .faulted then answerRefused .wrongState s
      else if 8 ≤ (s.axis i).moves.length then answerRefused .queueFull s
      else
        answerData [byteOf ((s.axis i).moves.length + 1)]
          (s.onAxis i (fun a =>
            { a with moves := a.moves ++ [{ position := x.toInt, arrival := y.toInt }] })) :=
  onAxisIndex_of_names hn s _

theorem doFlush_of_names {axis : Byte} {i : AxisIdx} (hn : Names axis i) (s : State) :
    doFlush axis s =
      answerData [byteOf (s.axis i).moves.length]
        (s.onAxis i (fun a => { a with moves := [], headStart := none })) :=
  onAxisIndex_of_names hn s _

/-- Settles O26: the checks of MOVE in their order; FLUSH has none. -/
theorem moveAndFlushChangeTheMoveQueue : Obligations.MoveAndFlushChangeTheMoveQueue := by
  rintro o s axis i a x y ht hn rfl
  have hmove : exec (.move o axis x y) s = .next (answered o 0x18 (doMove axis x y s)) :=
    exec_of_takes ht (.cueable (.move axis x y)) rfl fun _ => rfl
  have hflush : exec (.flush o axis) s = .next (answered o 0x19 (doFlush axis s)) :=
    exec_of_takes ht (.cueable (.flush axis)) rfl fun _ => rfl
  rw [hmove, hflush, doMove_of_names hn, doFlush_of_names hn]
  refine ⟨fun h => ?_, fun hlaw hstate hfull => ?_, fun hlaw hstate hroom => ?_, rfl⟩
  · rw [if_pos h]
  · rw [if_neg (by simp [hlaw, hstate]), if_pos hfull]
  · rw [if_neg (by simp [hlaw, hstate]), if_neg (Nat.not_le.2 hroom)]
    rfl

/-! ### The law an AXIS_LAW carries (R21, R177) -/

/-- The refusal of a body that is not its kind's: the kind is outside its list, or the size is not the
kind's. -/
def wrongBody (kind : Byte) : Except ResultCode Law :=
  if kind.toNat ≤ 4 then .error .badLength else .error .outOfRange

section
variable (own : AxisIdx) (kind : Byte)

theorem readLaw_empty :
    readLaw own kind .empty =
      if kind.toNat = 0 then .ok .none else if kind.toNat = 4 then .ok .cued else wrongBody kind := by
  unfold readLaw wrongBody
  generalize kind.toNat = k
  rcases k with _ | _ | _ | _ | _ | k <;> rfl

theorem readLaw_linear (phase rate epoch : BitVec 64) :
    readLaw own kind (.linear phase rate epoch) =
      if kind.toNat = 1 then .ok (.linear phase.toInt rate.toInt epoch.toInt) else wrongBody kind := by
  unfold readLaw wrongBody
  generalize kind.toNat = k
  rcases k with _ | _ | _ | _ | _ | k <;> rfl

theorem readLaw_table (id : Byte) (offset : BitVec 64) :
    readLaw own kind (.table id offset) =
      if kind.toNat = 2 then
        (readTable id).elim (.error .outOfRange) fun id => .ok (.table id offset.toInt)
      else wrongBody kind := by
  unfold readLaw wrongBody
  generalize kind.toNat = k
  rcases k with _ | _ | _ | _ | _ | k
  case succ.succ.zero =>
    change (match readTable id with | none => _ | some _ => _) = (readTable id).elim _ _
    cases readTable id <;> rfl
  all_goals rfl

theorem readLaw_coupled (source : Byte) (numerator denominator : BitVec 32) (phase : BitVec 64) :
    readLaw own kind (.coupled source numerator denominator phase) =
      if kind.toNat = 3 then
        if numerator.toInt = 0 ∨ denominator.toNat = 0 ∨ 2 ^ 31 < denominator.toNat then
          .error .outOfRange
        else if h : source.toNat < own.val then
          .ok (.coupled ⟨source.toNat, by omega⟩ numerator.toInt denominator.toNat phase.toInt)
        else .error .couplingOrder
      else wrongBody kind := by
  unfold readLaw wrongBody
  generalize kind.toNat = k
  rcases k with _ | _ | _ | _ | _ | k <;> rfl

variable {own : AxisIdx} {kind : Byte} {body : LawBody}

/-- Check 2 of R21. -/
theorem readLaw_of_kind_gt (h : 4 < kind.toNat) : readLaw own kind body = .error .outOfRange := by
  have hwrong : wrongBody kind = .error .outOfRange := if_neg (Nat.not_le.2 h)
  cases body with
  | empty => rw [readLaw_empty, if_neg (by omega), if_neg (by omega), hwrong]
  | linear => rw [readLaw_linear, if_neg (by omega), hwrong]
  | table => rw [readLaw_table, if_neg (by omega), hwrong]
  | coupled => rw [readLaw_coupled, if_neg (by omega), hwrong]

/-- A body of another size than the kind's (R177). -/
theorem readLaw_of_length {size : Nat}
    (hsize : (kind.toNat = 0 ∨ kind.toNat = 4) ∧ size = 0 ∨ kind.toNat = 1 ∧ size = 24 ∨
      kind.toNat = 2 ∧ size = 9 ∨ kind.toNat = 3 ∧ size = 17)
    (h : body.bytes.length ≠ size) : readLaw own kind body = .error .badLength := by
  have hwrong : wrongBody kind = .error .badLength := if_pos (by omega)
  cases body with
  | empty =>
    have h : 0 ≠ size := h
    rw [readLaw_empty, if_neg (by omega), if_neg (by omega), hwrong]
  | linear =>
    have h : 24 ≠ size := h
    rw [readLaw_linear, if_neg (by omega), hwrong]
  | table =>
    have h : 9 ≠ size := h
    rw [readLaw_table, if_neg (by omega), hwrong]
  | coupled =>
    have h : 17 ≠ size := h
    rw [readLaw_coupled, if_neg (by omega), hwrong]

/-- Check 3 of R21 for a TABLE law. -/
theorem readTable_of_toNat_eq {b : Byte} {id : TableId} (h : b.toNat = id.val) : readTable b = some id := by
  have hlt : b.toNat < 64 := by rw [h]; exact id.isLt
  have hid : (⟨b.toNat, hlt⟩ : TableId) = id := Fin.ext h
  simp [readTable, hlt, hid]

theorem readTable_of_gt {b : Byte} (h : 63 < b.toNat) : readTable b = none := by
  simp [readTable, Nat.not_lt.2 h]

/-- Checks 3 and 4 of R21 for a COUPLED law. -/
theorem readLaw_coupled_of_range {source : Byte} {numerator denominator : BitVec 32} {phase : BitVec 64}
    (hk : kind.toNat = 3)
    (h : numerator.toInt = 0 ∨ denominator.toNat = 0 ∨ 2 ^ 31 < denominator.toNat) :
    readLaw own kind (.coupled source numerator denominator phase) = .error .outOfRange := by
  rw [readLaw_coupled, if_pos hk, if_pos h]

theorem readLaw_coupled_of_le {source : Byte} {numerator denominator : BitVec 32} {phase : BitVec 64}
    (hk : kind.toNat = 3) (hn : numerator.toInt ≠ 0) (hd : 1 ≤ denominator.toNat)
    (hd' : denominator.toNat ≤ 2 ^ 31) (h : own.val ≤ source.toNat) :
    readLaw own kind (.coupled source numerator denominator phase) = .error .couplingOrder := by
  rw [readLaw_coupled, if_pos hk, if_neg (by omega), dif_neg (Nat.not_lt.2 h)]

theorem readLaw_coupled_of_lt {b : Byte} {source : AxisIdx} {numerator denominator : BitVec 32}
    {phase : BitVec 64} (hk : kind.toNat = 3) (hn : numerator.toInt ≠ 0) (hd : 1 ≤ denominator.toNat)
    (hd' : denominator.toNat ≤ 2 ^ 31) (hb : b.toNat = source.val) (h : source < own) :
    readLaw own kind (.coupled b numerator denominator phase) =
      .ok (.coupled source numerator.toInt denominator.toNat phase.toInt) := by
  have hlt : b.toNat < own.val := by rw [hb]; exact h
  have hsource : (⟨b.toNat, by omega⟩ : AxisIdx) = source := Fin.ext hb
  rw [readLaw_coupled, if_pos hk, if_neg (by omega), dif_pos hlt, hsource]

end

/-! ### AXIS_LAW (R21, R22) -/

theorem TableMemory.concerns_iff (t : TableMemory) (id : TableId) :
    t.concerns id = true ↔
      t.engine ≠ .idle ∧ ∃ r, t.rewrite = some r ∧ (r.oldTable = some id ∨ r.newTable = some id) := by
  cases h : t.rewrite <;> simp [TableMemory.concerns, h]

theorem Law.tableId_iff (law : Law) (id : TableId) :
    law.tableId = some id ↔ ∃ offset, law = .table id offset := by
  cases law <;> simp [Law.tableId]

theorem AxisState.needsLaw_iff (x : AxisState) :
    x.needsLaw = true ↔ x = .tracking ∨ x = .frozen ∨ x = .limited := by
  cases x <;> simp [AxisState.needsLaw]

/-- Check 6 of R21: the law's table, if it names one. -/
theorem lawUsable_iff (s : State) (law : Law) :
    s.lawUsable law = true ↔ ∀ id, law.tableId = some id → s.memory.usable id = true := by
  unfold State.lawUsable
  cases law.tableId <;> simp

/-- What an accepted AXIS_LAW leaves of the axis. -/
theorem Axis.bindLaw_eq (law : Law) (a : Axis) :
    a.bindLaw law =
      { a with
        law := law, moves := [], headStart := none, offTable := false, stale := false
        sourceHeld := false, rebaseDue := a.rebaseDue || decide (a.state ≠ AxisState.off)
        bracket := .none, fetch := none, stallCounted := false
        fetchState :=
          if a.fetchState = .granted ∨ a.fetchState = .discarding then .discarding else .idle } := by
  simp only [Axis.bindLaw, abandonFetch_eq]

/-- A law that changes leaves all of Table Memory but the Directory's bound-axis sets (R62). -/
theorem rebind_frame (i : AxisIdx) (old new : Law) (t : TableMemory) :
    t.rebind i old new = { t with directory := (t.rebind i old new).directory } := by
  unfold TableMemory.rebind
  cases old.tableId <;> cases new.tableId <;> rfl

section
variable {axis kind : Byte} {body : LawBody} {i : AxisIdx} {law : Law} (s : State)

theorem doAxisLaw_of_error {code : ResultCode} (hn : Names axis i)
    (h : readLaw i kind body = .error code) : doAxisLaw axis kind body s = answerRefused code s := by
  rw [doAxisLaw, onAxisIndex_of_names hn, h]

/-- AXIS_LAW with a law that passes checks 1 to 4: checks 5 and 6, then the law bound. -/
theorem doAxisLaw_of_ok (hn : Names axis i) (h : readLaw i kind body = .ok law) :
    doAxisLaw axis kind body s =
      if law = .none ∧ (s.axis i).state.needsLaw = true then answerRefused .wrongState s
      else if (s.axis i).state ≠ .off ∧ s.lawUsable law = false then answerRefused .tableUnusable s
      else
        answerDone (resumeIfIdle
          ({ s with memory := s.memory.rebind i (s.axis i).law law }.setAxis i
            ((s.axis i).bindLaw law))) := by
  rw [doAxisLaw, onAxisIndex_of_names hn, h]
  rfl

end

/-- Settles O27: the law is read, its two checks on the axis and the Directory follow, and the bound-axis sets
are those of `rebind_entry`. -/
theorem axisLawReplacesTheRecord : Obligations.AxisLawReplacesTheRecord := by
  refine ⟨fun m id => ⟨m.concerns_iff id, m.usable_iff id⟩, Law.tableId_iff, ?_⟩
  rintro o s axis kind body i a ht hn rfl
  have hexec : exec (.axisLaw o axis kind body) s =
      .next (answered o 0x12 (doAxisLaw axis kind body s)) :=
    exec_of_takes ht (.cueable (.axisLaw axis kind body)) rfl fun _ => rfl
  have herror : ∀ code, readLaw i kind body = .error code → exec (.axisLaw o axis kind body) s =
      .next (answered o 0x12 (answerRefused code s)) := fun code h => by
    rw [hexec, doAxisLaw_of_error s hn h]
  refine ⟨fun h => herror _ (readLaw_of_kind_gt h), ?_, ?_,
    fun size hsize h => herror _ (readLaw_of_length hsize h), ?_, ?_⟩
  · rintro id offset hk rfl h
    refine herror _ ?_
    rw [readLaw_table, if_pos hk, readTable_of_gt h]
    rfl
  · rintro source numerator denominator phase hk rfl
    exact ⟨fun h => herror _ (readLaw_coupled_of_range hk h),
      fun h₁ h₂ h₃ h => herror _ (readLaw_coupled_of_le hk h₁ h₂ h₃ h)⟩
  · rintro hk rfl hstate
    have hread : readLaw i kind .empty = .ok .none := by rw [readLaw_empty, if_pos hk]
    rw [hexec, doAxisLaw_of_ok s hn hread, if_pos ⟨rfl, (AxisState.needsLaw_iff _).2 hstate⟩]
  · intro law hlaw
    have hread : readLaw i kind body = .ok law ∧ ¬(law = .none ∧ (s.axis i).state.needsLaw = true) := by
      rcases hlaw with ⟨hk, rfl, rfl, h₁, h₂, h₃⟩ | ⟨hk, rfl, rfl⟩ | ⟨phase, rate, epoch, hk, rfl, rfl⟩ |
        ⟨b, id, offset, hk, rfl, hb, rfl⟩ | ⟨b, source, n, d, phase, hk, rfl, h₁, h₂, h₃, hb, hlt, rfl⟩
      · exact ⟨by rw [readLaw_empty, if_pos hk], by simp [AxisState.needsLaw_iff, h₁, h₂, h₃]⟩
      · exact ⟨by rw [readLaw_empty, if_neg (by omega), if_pos hk], by simp⟩
      · exact ⟨by rw [readLaw_linear, if_pos hk], by simp⟩
      · exact ⟨by rw [readLaw_table, if_pos hk, readTable_of_toNat_eq hb]; rfl, by simp⟩
      · exact ⟨readLaw_coupled_of_lt hk h₁ h₂ h₃ hb hlt, by simp⟩
    obtain ⟨hread, hkind⟩ := hread
    rw [hexec, doAxisLaw_of_ok s hn hread, if_neg hkind]
    refine ⟨fun id hoff hid husable => ?_, fun husable => ?_⟩
    · have hnot : s.lawUsable law = false := Bool.eq_false_iff.2 fun h => by
        rw [(lawUsable_iff s law).1 h id hid] at husable
        cases husable
      rw [if_pos ⟨hoff, hnot⟩]
    · have hok : ¬((s.axis i).state ≠ .off ∧ s.lawUsable law = false) := by
        rintro ⟨hoff, h⟩
        rw [(lawUsable_iff s law).2 fun id hid => husable id hoff hid] at h
        cases h
      rw [if_neg hok, Axis.bindLaw_eq]
      refine ⟨s.memory.rebind i (s.axis i).law law, rfl, rebind_frame _ _ _ _, fun id => ?_⟩
      obtain ⟨b, hentry, hbound⟩ := rebind_entry i (s.axis i).law law s.memory id
      rw [hentry]
      refine ⟨rfl, fun j => (hbound j).trans ?_⟩
      by_cases hj : i = j
      · subst hj
        by_cases hnew : law.tableId = some id <;> simp [hnew, Bool.and_comm]
      · simp [hj, Ne.symm hj]

/-! ### AXIS_MOTION_CONFIG (R83, R94) -/

theorem readAxisKind_eq (b : Byte) :
    readAxisKind b =
      if b.toNat ≤ 1 then some (if b.toNat = 0 then .wrapping else .bounded) else none := by
  unfold readAxisKind
  rcases h : b.toNat with _ | _ | n <;> simp

theorem readLane_eq (b : Byte) :
    readLane b = if b.toNat ≤ 1 then some (if b.toNat = 0 then .sky else .showing) else none := by
  unfold readLane
  rcases h : b.toNat with _ | _ | n <;> simp

theorem readHoldResponse_eq (b : Byte) :
    readHoldResponse b =
      if b.toNat ≤ 1 then some (if b.toNat = 0 then .follow else .freeze) else none := by
  unfold readHoldResponse
  rcases h : b.toNat with _ | _ | n <;> simp

theorem readParkMode_eq (b : Byte) :
    readParkMode b =
      if b.toNat ≤ 2 then
        some (if b.toNat = 0 then .holdTorque else if b.toNat = 1 then .release else .brake)
      else none := by
  unfold readParkMode
  rcases h : b.toNat with _ | _ | _ | n <;> simp

/-- The ranges of the fields that have no clamping rule (R83, R94). -/
def MotionInRange (f : MotionFields) : Prop :=
  f.kind.toNat ≤ 1 ∧ 1 ≤ f.steps.toNat ∧ f.steps.toNat ≤ 16777216 ∧ f.lane.toNat ≤ 1 ∧
    f.backlash.toNat ≤ 4095 ∧ f.lagLimit.toNat ≤ 2 ^ 31 - 1 ∧ f.holdResponse.toNat ≤ 1 ∧
    f.parkMode.toNat ≤ 2

/-- The record that fields in their ranges spell, Vmax and Amax saturated. -/
def motionConfigOf (f : MotionFields) : MotionConfig :=
  { kind := if f.kind.toNat = 0 then .wrapping else .bounded
    steps := f.steps.toNat
    lane := if f.lane.toNat = 0 then .sky else .showing
    vmax := (max 1 (min 500 f.vmax.toInt)).toNat
    amax := (max 1 (min 250 f.amax.toInt)).toNat
    backlash := f.backlash.toNat
    softMin := f.softMin.toInt, softMax := f.softMax.toInt
    lagLimit := f.lagLimit.toNat
    holdResponse := if f.holdResponse.toNat = 0 then .follow else .freeze
    parkMode :=
      if f.parkMode.toNat = 0 then .holdTorque
      else if f.parkMode.toNat = 1 then .release else .brake }

theorem saturateSpeed_eq {top : Int} (h : 1 ≤ top) (x : BitVec 16) :
    saturateSpeed top x = (max 1 (min top x.toInt)).toNat :=
  congrArg Int.toNat (clamp_eq_max_min h _)

/-- A request in range spells its record, and any other is refused. -/
theorem readMotion_of_inRange {f : MotionFields} (h : MotionInRange f) :
    readMotion f = some (motionConfigOf f) := by
  obtain ⟨hkind, hlow, hhigh, hlane, hbacklash, hlag, hhold, hpark⟩ := h
  simp [readMotion, readAxisKind_eq, readLane_eq, readHoldResponse_eq, readParkMode_eq, readRange,
    saturateSpeed_eq, motionConfigOf, hkind, hlow, hhigh, hlane, hbacklash,
    show f.lagLimit.toNat ≤ 2147483647 from hlag, hhold, hpark]

theorem readMotion_of_not_inRange {f : MotionFields} (h : ¬MotionInRange f) : readMotion f = none := by
  cases hread : readMotion f with
  | none => rfl
  | some g =>
    simp only [readMotion, Option.bind_eq_bind, Option.bind_eq_some_iff, readAxisKind_eq, readLane_eq,
      readHoldResponse_eq, readParkMode_eq, readRange, Option.ite_none_right_eq_some] at hread
    obtain ⟨_, ⟨hkind, -⟩, _, ⟨⟨hlow, hhigh⟩, -⟩, _, ⟨hlane, -⟩, _, ⟨⟨-, hbacklash⟩, -⟩, _,
      ⟨⟨-, hlag⟩, -⟩, _, ⟨hhold, -⟩, _, ⟨hpark, -⟩, -⟩ := hread
    exact absurd ⟨hkind, hlow, hhigh, hlane, hbacklash, hlag, hhold, hpark⟩ h

theorem motionSaturates_iff (f : MotionFields) :
    motionSaturates f = true ↔
      f.vmax.toInt < 1 ∨ 500 < f.vmax.toInt ∨ f.amax.toInt < 1 ∨ 250 < f.amax.toInt := by
  simp [motionSaturates, speedSaturates, or_assoc]

/-- What a write of the config record leaves of the axis, field by field (R33, R38, R88, R147). -/
theorem Axis.configure_eq (g : MotionConfig) (a : Axis) {same : Prop} [Decidable same]
    (h : same ↔ g.kind = a.motion.kind ∧ g.steps = a.motion.steps ∧ g.softMin = a.motion.softMin ∧
      g.softMax = a.motion.softMax) :
    a.configure g =
      { a with
        motion := g
        homed := if same then a.homed else false
        clamped := if same then a.clamped else false
        rebaseDue := if same then a.rebaseDue else false
        w := if g.kind = .bounded then 0 else a.w
        lp := if g.backlash = a.motion.backlash then a.lp else 0
        lastDir := if g.backlash = a.motion.backlash then a.lastDir else .positive
        output := if g.parkMode = a.motion.parkMode then a.output else a.output.repark g.parkMode } := by
  simp only [Axis.configure, h]
  split_ifs <;> rfl

/-- A changed park mode waits while park pending is set, and else gives a parked axis its levels (R147). -/
theorem Output.repark_of_pending {mode : ParkMode} {o : Output} (h : o.parkPending = true) :
    o.repark mode = o := by
  simp [Output.repark, h]

theorem Output.repark_of_parked {mode : ParkMode} {o : Output} (hm : o.mode = .parked)
    (hp : o.parkPending = false) :
    o.repark mode =
      { o with enable := decide (mode = .holdTorque), brake := decide (mode = .brake) } := by
  rw [Output.repark, if_pos ⟨hm, hp⟩, applyPark_eq, ← hp]

/-- What AXIS_MOTION_CONFIG does on the axis it names: its checks in their order, then the write. -/
theorem doAxisMotionConfig_of_names {axis : Byte} {i : AxisIdx} (hn : Names axis i) (f : MotionFields)
    (s : State) :
    doAxisMotionConfig axis f s =
      if (s.axis i).state ≠ .off then answerRefused .wrongState s
      else
        (readMotion f).elim (answerRefused .outOfRange s) fun g =>
          answerClamped (motionSaturates f) (s.onAxis i (Axis.configure g)) := by
  rw [doAxisMotionConfig, onAxisIndex_of_names hn]
  cases readMotion f <;> rfl

/-- Settles O28: the state and the ranges are tested, and the write is that of `Axis.configure_eq`. -/
theorem axisMotionConfigIsTakenInOff : Obligations.AxisMotionConfigIsTakenInOff := by
  rintro o s axis f i a ht hn rfl inRange hrange
  have hrange : inRange ↔ MotionInRange f := hrange
  have hexec : exec (.axisMotionConfig o axis f) s =
      .next (answered o 0x10 (doAxisMotionConfig axis f s)) :=
    exec_of_takes ht (.axisMotionConfig axis f) rfl fun _ => rfl
  rw [hexec, doAxisMotionConfig_of_names hn]
  refine ⟨fun h => by rw [if_pos h], fun hoff h => ?_, fun hoff h => ?_⟩
  · rw [if_neg (not_not.2 hoff), readMotion_of_not_inRange (mt hrange.2 h)]
    rfl
  · rw [if_neg (not_not.2 hoff), readMotion_of_inRange (hrange.1 h)]
    refine ⟨(s.axis i).configure (motionConfigOf f), ?_, ?_⟩
    · simp only [Option.elim_some, answerClamped, motionSaturates_iff]
      rfl
    rw [Axis.configure_eq (motionConfigOf f) (s.axis i) Iff.rfl]
    refine ⟨rfl, fun same hsame => ⟨fun h => ?_, fun h => ?_⟩, rfl, fun h => ?_, fun h => ?_, fun h => ?_,
      fun h hmode hpending => ?_, rfl⟩
    · exact ⟨if_pos (hsame.1 h), if_pos (hsame.1 h), if_pos (hsame.1 h)⟩
    · exact ⟨if_neg (mt hsame.2 h), if_neg (mt hsame.2 h), if_neg (mt hsame.2 h)⟩
    · exact ⟨if_pos h, if_pos h⟩
    · exact ⟨if_neg h, if_neg h⟩
    · exact ite_eq_left_iff.2 fun hpark => Output.repark_of_pending (h.resolve_left hpark)
    · exact (if_neg h).trans (Output.repark_of_parked hmode hpending)

end Sys2Proof.Machine
end

section
/-! The turns of the axes by state (spec/05, spec/06), and the statement about them (O22). -/

namespace Sys2Proof.Machine

/-! ### Inputs and measured position (R127, R134, R136) -/

theorem Axis.inputActive_iff (k : InputKind) (a : Axis) :
    a.inputActive k = true ↔ (a.filters.get k).accepted = some (a.sense.activeLevels.get k) := by
  simp [Axis.inputActive]

theorem Axis.measured_of_none {a : Axis} (h : a.sense.encoderMode = .none) : a.measured = none :=
  if_pos h

theorem Axis.measured_of_encoder {a : Axis} (h : a.sense.encoderMode ≠ .none) :
    a.measured = some (max (-2 ^ 63) (min (2 ^ 63 - 1)
      (Int.fdiv (a.encoder.count * a.motion.steps) a.sense.counts + a.encoder.offset))) := by
  rw [Axis.measured, if_neg h, sat64_eq_max_min]
  rfl

/-- The FOLLOW check fails on a measured position beyond a follow limit that is not 0. -/
theorem Axis.followFails_iff (a : Axis) :
    a.followFails = true ↔
      ∃ x, a.measured = some x ∧ a.sense.followLimit ≠ 0 ∧
        a.sense.followLimit < (a.c - x).natAbs := by
  unfold Axis.followFails Axis.followingError
  cases a.measured <;> simp

/-! ### What a turn hands over (R79, R84) -/

theorem Axis.testLag_eq (a : Axis) :
    a.testLag =
      { a with lag := decide (a.motion.lagLimit ≠ 0 ∧ a.motion.lagLimit < (a.m - a.c).natAbs) } := by
  simp only [Axis.testLag, Bool.decide_and]

theorem idleTurn_eq (i : AxisIdx) (s : State) :
    idleTurn i s =
      s.setAxis i
        { s.axis i with
          lag := false
          output := (s.axis i).output.handOver (s.axis i).motion.parkMode 0 } := by
  simp only [idleTurn, handOver, State.onAxis, State.axis_setAxis_same, setAxis_setAxis]

theorem standingTurn_eq (i : AxisIdx) (s : State) :
    standingTurn i s =
      s.setAxis i
        { s.axis i with
          lag := decide ((s.axis i).motion.lagLimit ≠ 0 ∧
            (s.axis i).motion.lagLimit < ((s.axis i).m - (s.axis i).c).natAbs)
          output := (s.axis i).output.handOver (s.axis i).motion.parkMode 0 } := by
  simp only [standingTurn, handOver, State.onAxis, State.axis_setAxis_same, setAxis_setAxis,
    Axis.testLag_eq]

theorem moveTurn_eq (i : AxisIdx) (s : State) :
    moveTurn i s =
      s.setAxis i
        { (s.axis i).moveTowardTarget with
          output := (s.axis i).output.handOver (s.axis i).motion.parkMode
            (stepCount (s.axis i) (s.axis i).moveTowardTarget) } := by
  simp only [moveTurn, handOver, State.onAxis, State.axis_setAxis_same, setAxis_setAxis]
  rfl

/-! ### The end stops (R103) -/

/-- An end stop that stands active is on the side of travel. -/
def Axis.atStop (a : Axis) : EndStop → Prop
  | .limPos => a.inputActive .limPos = true ∧ (0 < a.v ∨ a.c < a.m)
  | .limNeg => a.inputActive .limNeg = true ∧ (a.v < 0 ∨ a.m < a.c)

/-- The states whose turn is a driven one. -/
def AxisState.Driven (x : AxisState) : Prop := x = .ready ∨ x = .tracking ∨ x = .frozen

theorem AxisState.Driven.toRemembered {x : AxisState} (h : x.Driven) :
    x.toRemembered =
      if x = .ready then some .ready else if x = .tracking then some .tracking else some .frozen := by
  rcases h with rfl | rfl | rfl <;> rfl

theorem Axis.meetsStop_iff {a : Axis} (h : a.state.Driven) (stop : EndStop) :
    a.meetsStop stop = true ↔ a.motion.kind = .bounded ∧ a.atStop stop := by
  have hsome : a.state.toRemembered.isSome = true := by rcases h with h | h | h <;> rw [h] <;> rfl
  cases stop <;>
    simp [Axis.meetsStop, Axis.atStop, hsome, stopInput, stopOnSide, and_assoc]

theorem standingTurn_limitAxis_eq {i : AxisIdx} {s : State} (h : (s.axis i).state.Driven)
    (stop : EndStop) :
    standingTurn i (limitAxis i stop s) =
      (s.raise (.limit i)).setAxis i
        { s.axis i with
          remembered :=
            if (s.axis i).state = .ready then some .ready
            else if (s.axis i).state = .tracking then some .tracking else some .frozen
          activeLimit := some stop, v := 0, state := .limited, stopTaken := true
          lag := decide ((s.axis i).motion.lagLimit ≠ 0 ∧
            (s.axis i).motion.lagLimit < ((s.axis i).m - (s.axis i).c).natAbs)
          output := (s.axis i).output.handOver (s.axis i).motion.parkMode 0 } := by
  have hlimit : limitAxis i stop s = (s.raise (.limit i)).setAxis i ((s.axis i).enterLimited stop) := rfl
  rw [standingTurn_eq, hlimit, State.axis_setAxis_same, setAxis_setAxis, ← h.toRemembered]
  rfl

/-! ### A driven turn (R79, R90, R103) -/

section
variable {i : AxisIdx} {s : State}

theorem drivenTurn_of_no_stop (h : ∀ stop, (s.axis i).meetsStop stop = false) :
    drivenTurn i s = if (s.axis i).standsStill then standingTurn i s else moveTurn i s := by
  simp [drivenTurn, h]

/-- LIM_POS is tested first. -/
theorem drivenTurn_of_stop {stop : EndStop} (h : (s.axis i).meetsStop stop = true)
    (hfirst : stop = .limNeg → (s.axis i).meetsStop .limPos = false) :
    drivenTurn i s = standingTurn i (limitAxis i stop s) := by
  cases stop with
  | limPos => simp [drivenTurn, h]
  | limNeg => simp [drivenTurn, h, hfirst rfl]

/-! ### The tests at the start of a turn (R105, R136) -/

variable (u : LaneUpdate)

theorem turnBody_of_rest (h : (s.axis i).state = .off ∨ (s.axis i).state = .faulted) :
    turnBody u i s = idleTurn i s := by
  rcases h with h | h <;> simp only [turnBody, h]

theorem turnBody_of_drive (hoff : (s.axis i).state ≠ .off) (hfaulted : (s.axis i).state ≠ .faulted)
    (h : (s.axis i).inputActive .drvFault = true) : turnBody u i s = faultTurn i .drive s := by
  unfold turnBody
  cases hs : (s.axis i).state with
  | off => exact absurd hs hoff
  | faulted => exact absurd hs hfaulted
  | ready | homing | tracking | frozen | limited => exact if_pos h

theorem turnBody_of_homing (hs : (s.axis i).state = .homing)
    (h : (s.axis i).inputActive .drvFault = false) : turnBody u i s = homingTurn i s := by
  simp [turnBody, hs, h]

/-- Outside HOMING the following check is the second test. -/
theorem turnBody_of_followed (hs : (s.axis i).state.Driven ∨ (s.axis i).state = .limited)
    (h : (s.axis i).inputActive .drvFault = false) :
    turnBody u i s =
      if (s.axis i).followFails then faultTurn i .follow s else evaluatingTurn u i s := by
  rcases hs with (hs | hs | hs) | hs <;> simp [turnBody, hs, h]

/-! ### LIMITED (R104) -/

theorem Axis.isAway_iff (a : Axis) :
    a.isAway = true ↔
      a.activeLimit = some .limPos ∧ a.m < a.c ∨ a.activeLimit = some .limNeg ∧ a.c < a.m := by
  unfold Axis.isAway
  split <;> simp [*]

theorem Axis.returnFromLimited_of_some {a : Axis} {r : Remembered} (h : a.remembered = some r) :
    a.returnFromLimited =
      { a with state := r.state, remembered := none, activeLimit := none } := by
  simp only [Axis.returnFromLimited, h]

theorem evaluatingTurn_of_away {r : Remembered} (hs : (s.axis i).state = .limited)
    (haway : ((evaluateAxis u i s).axis i).isAway = true)
    (hr : ((evaluateAxis u i s).axis i).remembered = some r) :
    evaluatingTurn u i s =
      drivenTurn i ((evaluateAxis u i s).onAxis i Axis.returnFromLimited) := by
  simp [evaluatingTurn, hs, haway, hr]

theorem evaluatingTurn_of_not_away (hs : (s.axis i).state = .limited)
    (haway : ((evaluateAxis u i s).axis i).isAway ≠ true) :
    evaluatingTurn u i s = standingTurn i (evaluateAxis u i s) := by
  simp [evaluatingTurn, hs, haway]

end

/-- Settles O22: the tests at the start of a turn, the work by state, and the driven turn by its end
stops. -/
theorem turnsDependOnTheState : Obligations.TurnsDependOnTheState := by
  refine ⟨fun a => ⟨a.inputActive_iff .home, a.inputActive_iff .limPos, a.inputActive_iff .limNeg,
    a.inputActive_iff .drvFault, Axis.measured_of_none, Axis.measured_of_encoder⟩, ?_, ?_, ?_, ?_⟩
  · rintro i s a rfl
    exact ⟨fun _ => rfl, standingTurn_eq i s,
      fun hoff hfaulted cause => (takeCause_of_active cause hoff hfaulted).symm⟩
  · rintro u i s b rfl
    rfl
  · rintro u i s a rfl
    refine ⟨fun h => (turnBody_of_rest u h).trans (idleTurn_eq i s),
      fun hoff hfaulted h => turnBody_of_drive u hoff hfaulted h,
      fun hs h => turnBody_of_homing u hs h, fun hs h => ?_⟩
    have hstart := turnBody_of_followed u (by simpa only [AxisState.Driven, or_assoc] using hs) h
    refine ⟨fun x hx hlimit hout => ?_, fun hwithin => ?_⟩
    · rw [hstart, if_pos ((Axis.followFails_iff _).2 ⟨x, hx, hlimit, hout⟩)]
      rfl
    have hfollows : ¬(s.axis i).followFails = true := by
      rw [Axis.followFails_iff]
      rintro ⟨x, hx, hlimit, hout⟩
      exact absurd (hwithin x hx hlimit) (by omega)
    rw [hstart, if_neg hfollows]
    refine ⟨?_, ?_, ?_⟩
    · rintro (hs | hs) <;> simp only [evaluatingTurn, hs]
    · intro hs
      simp only [evaluatingTurn, hs]
    · rintro hs e b rfl rfl
      rw [← Axis.isAway_iff]
      refine ⟨fun haway r hr => ?_, evaluatingTurn_of_not_away u hs⟩
      rw [evaluatingTurn_of_away u hs haway hr, ← Axis.returnFromLimited_of_some hr]
      rfl
  · rintro i s a rfl hs
    have hmeets := Axis.meetsStop_iff hs
    refine ⟨fun hfree => ?_, ?_⟩
    · have hno : ∀ stop, (s.axis i).meetsStop stop = false := fun stop => by
        rw [Bool.eq_false_iff, ne_eq, hmeets]
        rintro ⟨hk, hat⟩
        rcases hfree with hw | ⟨hpos, hneg⟩
        · rw [hk] at hw
          cases hw
        · cases stop
          · exact hpos hat
          · exact hneg hat
      rw [drivenTurn_of_no_stop hno, ← moveTurn_eq, ← standingTurn_eq]
      refine ⟨?_, fun htaken hholds => if_pos (by simp [Axis.standsStill, htaken, hholds])⟩
      rintro (h | h) <;> exact if_neg (by simp [Axis.standsStill, h])
    · intro stop hk hpos hneg
      have hat : (s.axis i).meetsStop stop = true := (hmeets stop).2 ⟨hk, by
        cases stop with
        | limPos => exact hpos rfl
        | limNeg =>
          obtain ⟨hactive, hside, -⟩ := hneg rfl
          exact ⟨hactive, hside⟩⟩
      have hfirst : stop = .limNeg → (s.axis i).meetsStop .limPos = false := fun hstop => by
        obtain ⟨-, -, hnot⟩ := hneg hstop
        rw [Bool.eq_false_iff, ne_eq, hmeets]
        exact fun h => hnot h.2
      rw [drivenTurn_of_stop hat hfirst, standingTurn_limitAxis_eq hs]

end Sys2Proof.Machine
end

section
/-! The Table Port (spec/03): whom a grant serves and where its knot lies, what a completed read does, and the
port's part where the pending set changes, with the statements about them (O38, O39, O42). -/

namespace Sys2Proof.Machine

/-! ### Events with power, and the engine states -/

theorem whenOn_of_on {s : State} (hp : s.power = .on) (f : State → State) : whenOn f s = .next (f s) := by
  rw [whenOn, if_pos hp]

/-- An event that does not occur leaves the state, with power or without. -/
theorem whenOn_of_eq {s : State} {f : State → State} (h : f s = s) : whenOn f s = .next s := by
  rw [whenOn, h, ite_self]

theorem EngineState.grants_iff (e : EngineState) :
    e.grants = true ↔ e = .idle ∨ e = .eraseSuspended ∨ e = .programSuspended := by
  cases e <;> simp [EngineState.grants]

theorem EngineState.grants_eq_false_iff (e : EngineState) :
    e.grants = false ↔ e = .erasing ∨ e = .programming ∨ e = .aborting := by
  cases e <;> simp [EngineState.grants]

theorem EngineState.suspended_eq_false_iff (e : EngineState) :
    e.suspended = false ↔ e = .idle ∨ e = .erasing ∨ e = .programming ∨ e = .aborting := by
  cases e <;> simp [EngineState.suspended]

/-! ### The order of service (R51) -/

/-- The place of axis `i` in the order of service after `last`. -/
def servicePlace (last i : AxisIdx) : Nat := (i - last - 1).val

theorem servicePlace_add (last k : AxisIdx) : servicePlace last (last + 1 + k) = k.val := by
  rw [servicePlace, show last + 1 + k - last - 1 = k by abel]

theorem serviceOrder_rises (last : AxisIdx) :
    (serviceOrder last).Pairwise (fun i j => servicePlace last i < servicePlace last j) := by
  have hrises : allAxes.Pairwise (fun i j => i.val < j.val) := by decide
  simpa only [serviceOrder, List.pairwise_map, servicePlace_add] using hrises

theorem mem_serviceOrder (last i : AxisIdx) : i ∈ serviceOrder last := by
  have hall : ∀ k : AxisIdx, k ∈ allAxes := by decide
  exact List.mem_map.2 ⟨i - last - 1, hall _, by abel⟩

/-- The first axis in the order of service that has a value is the one found. -/
theorem findSome?_serviceOrder {α : Type} {last i : AxisIdx} {f : AxisIdx → Option α} {r : α}
    (h : f i = some r) (hfirst : ∀ j, f j ≠ none → servicePlace last i ≤ servicePlace last j) :
    (serviceOrder last).findSome? f = some r := by
  cases hfound : (serviceOrder last).findSome? f with
  | none =>
    rw [List.findSome?_eq_none_iff.1 hfound i (mem_serviceOrder last i)] at h
    cases h
  | some r' =>
    obtain ⟨before, j, rest, hsplit, hj, hnone⟩ := List.findSome?_eq_some_iff.1 hfound
    have hrises := serviceOrder_rises last
    have hi := mem_serviceOrder last i
    rw [hsplit] at hrises hi
    have hij : i = j := by
      rcases List.mem_append.1 hi with hbefore | hrest
      · rw [hnone i hbefore] at h
        cases h
      · refine (List.mem_cons.1 hrest).resolve_right fun hlater => ?_
        have hlt := (List.pairwise_cons.1 (List.pairwise_append.1 hrises).2.1).1 i hlater
        exact absurd (hfirst j (by simp [hj])) (by omega)
    rw [← hj, ← hij, h]

/-! ### Grants (R42, R50) -/

/-- The knot lies in the segment that the counts of the segments before it lead to. -/
theorem locateKnot_some {k : Nat} {segments : List (Nat × Nat)} {segment slot : Nat}
    (h : locateKnot k segments = some (segment, slot)) :
    ∃ before count rest, segments = before ++ (segment, count) :: rest ∧
      k = (before.map Prod.snd).sum + slot ∧ slot < count := by
  induction segments generalizing k with
  | nil => cases h
  | cons e segments ih =>
    obtain ⟨segment', count'⟩ := e
    by_cases hk : k < count'
    · rw [locateKnot, if_pos hk] at h
      cases h
      exact ⟨[], count', segments, rfl, by simp, hk⟩
    · rw [locateKnot, if_neg hk] at h
      obtain ⟨before, count, rest, hsplit, hsum, hslot⟩ := ih h
      refine ⟨(segment', count') :: before, count, rest, by rw [hsplit]; rfl, ?_, hslot⟩
      simp only [List.map_cons, List.sum_cons]
      omega

/-- What a read is made of: its axis's fetch, the table its law names, and where the knot lies. -/
theorem readTarget_some {s : State} {i : AxisIdx} {r : PortRead} (h : s.readTarget i = some r) :
    ∃ f id, (s.axis i).fetch = some f ∧ (s.axis i).law.tableId = some id ∧ r.axis = i ∧
      r.index = f.nextIndex ∧
      locateKnot f.nextIndex (s.entry id).segments = some (r.segment, r.slot) := by
  simp only [State.readTarget, Option.bind_eq_bind, Option.bind_eq_some_iff] at h
  obtain ⟨f, hf, id, hid, ⟨segment, slot⟩, hplace, h⟩ := h
  cases h
  exact ⟨f, id, hf, hid, rfl, rfl, hplace⟩

theorem askedRead_of_waiting {s : State} {i : AxisIdx} (h : (s.axis i).fetchState = .waiting) :
    s.askedRead i = s.readTarget i := by
  simp [State.askedRead, State.waiting, h]

theorem askedRead_eq_none_iff (s : State) (i : AxisIdx) :
    s.askedRead i = none ↔ ((s.axis i).fetchState = .waiting → s.readTarget i = none) := by
  by_cases h : (s.axis i).fetchState = .waiting
  · simp [askedRead_of_waiting h, h]
  · simp [askedRead_of_not_waiting h, h]

theorem grantRead_of_first {s : State} {i : AxisIdx} {r : PortRead} (hfree : s.port.reading = none)
    (hgrants : s.memory.engine.grants = true) (hwait : (s.axis i).fetchState = .waiting)
    (hfirst : ∀ j, (s.axis j).fetchState = .waiting → s.readTarget j ≠ none →
      servicePlace s.port.lastServed i ≤ servicePlace s.port.lastServed j)
    (hr : s.readTarget i = some r) :
    grantRead s =
      { s with port := { s.port with reading := some r, lastServed := i } }.setAxis i
        { s.axis i with fetchState := .granted, stallCounted := false } := by
  have hfound : (serviceOrder s.port.lastServed).findSome? s.askedRead = some r := by
    refine findSome?_serviceOrder ((askedRead_of_waiting hwait).trans hr) fun j hj => ?_
    rw [ne_eq, askedRead_eq_none_iff, Classical.not_imp] at hj
    exact hfirst j hj.1 hj.2
  obtain ⟨_, _, _, _, rfl, _⟩ := readTarget_some hr
  rw [grantRead, if_pos ⟨hfree, hgrants⟩, hfound]
  rfl

theorem grantRead_of_not_due {s : State}
    (h : s.port.reading ≠ none ∨ s.memory.engine.grants = false ∨ ∀ i, s.askedRead i = none) :
    grantRead s = s := by
  rcases grantRead_cases s with he | ⟨r, hfree, hgrants, hasked, -⟩
  · exact he
  rcases h with h | h | h
  · exact absurd hfree h
  · rw [hgrants] at h
    cases h
  · rw [h] at hasked
    cases hasked

theorem postRead_of_grants {s : State} (h : s.memory.engine.grants = true) (i : AxisIdx) :
    postRead i s = grantRead s := if_pos h

/-- Settles O38: the order of service is the rising order of `servicePlace`, and `locateKnot_some` says where
the knot lies. -/
theorem grantsGoInServiceOrder : Obligations.GrantsGoInServiceOrder := by
  refine ⟨fun s hp => whenOn_of_on hp grantRead, ?_, fun s h => grantRead_of_not_due ?_,
    fun s i h => postRead_of_grants ((EngineState.grants_iff _).2 h) i, ?_⟩
  · exact fun s i r hfree hengine hwait hfirst hr =>
      grantRead_of_first hfree ((EngineState.grants_iff _).2 hengine) hwait hfirst hr
  · simp only [askedRead_eq_none_iff, EngineState.grants_eq_false_iff]
    simpa only [or_assoc] using h
  · intro s i r h
    obtain ⟨f, id, hf, hid, haxis, hindex, hplace⟩ := readTarget_some h
    exact ⟨f, id, hf, hid, haxis, hindex, hindex ▸ locateKnot_some hplace⟩

/-! ### Fetches (R42, R44, R45) -/

theorem Fetch.take_of_le {f : Fetch} {k : KnotRef} (h : k.knot.time ≤ f.time) :
    f.take k = { f with low := k, phase := .search } := if_pos h

theorem Fetch.take_of_lt {f : Fetch} {k : KnotRef} (h : f.time < k.knot.time) :
    f.take k = { f with high := k, phase := .search } := if_neg (Int.not_le.2 h)

/-- The knot a fetch asks for by its phase. -/
theorem Fetch.nextIndex_cases (f : Fetch) :
    (f.phase = .stepUp → f.nextIndex = f.low.index + 1) ∧
      (f.phase = .stepDown → f.nextIndex = f.high.index - 1) ∧
      (f.phase = .search → f.nextIndex = (f.low.index + f.high.index) / 2) := by
  unfold Fetch.nextIndex
  cases f.phase <;> simp

theorem Fetch.nextIndex_between {f : Fetch} (h : f.low.index + 1 < f.high.index) :
    f.low.index < f.nextIndex ∧ f.nextIndex < f.high.index := by
  obtain ⟨hup, hdown, hsearch⟩ := f.nextIndex_cases
  cases hp : f.phase with
  | stepUp => rw [hup hp]; omega
  | stepDown => rw [hdown hp]; omega
  | search => rw [hsearch hp]; omega

/-- The midpoint of a search leaves at most half the way, rounded up, on either side. -/
theorem Fetch.nextIndex_halves {f : Fetch} (hp : f.phase = .search) :
    2 * (f.high.index - f.nextIndex) ≤ f.high.index - f.low.index + 1 ∧
      2 * (f.nextIndex - f.low.index) ≤ f.high.index - f.low.index + 1 := by
  rw [f.nextIndex_cases.2.2 hp]
  omega

/-! ### The completion of a read (R47, R49, R50) -/

theorem knotAt_of_some {s : State} {r : PortRead} {x : Knot}
    (h : sparseGet r.slot (s.memory.image r.segment).slots = some x) :
    s.knotAt r = { index := r.index, knot := x, segment := r.segment } := by
  simp [State.knotAt, h]

section
variable {a : Axis} {k : KnotRef}

theorem Fetch.isPair_iff (f : Fetch) : f.isPair = true ↔ f.high.index ≤ f.low.index + 1 := by
  simp [Fetch.isPair]

theorem Axis.takeRead_of_pair {f : Fetch} (hs : a.fetchState = .granted) (hf : a.fetch = some f)
    (h : (f.take k).high.index ≤ (f.take k).low.index + 1) :
    a.takeRead k =
      { a with
        bracket := .pair (f.take k).low (f.take k).high, fetch := none, fetchState := .idle
        stallCounted := false } := by
  simp [Axis.takeRead, hs, hf, Axis.holdFetch, (Fetch.isPair_iff _).2 h]

theorem Axis.takeRead_of_further {f : Fetch} (hs : a.fetchState = .granted) (hf : a.fetch = some f)
    (h : (f.take k).low.index + 1 < (f.take k).high.index) :
    a.takeRead k =
      { a with fetch := some (f.take k), fetchState := .waiting, stallCounted := false } := by
  have hpair : ¬(f.take k).isPair = true := by rw [Fetch.isPair_iff]; omega
  simp [Axis.takeRead, hs, hf, Axis.holdFetch, hpair]

theorem Axis.takeRead_of_discarded (hs : a.fetchState = .discarding) (hf : a.fetch = none) :
    a.takeRead k = { a with fetchState := .idle } := by
  simp [Axis.takeRead, hs, hf]

theorem Axis.takeRead_of_begun {f : Fetch} (hs : a.fetchState = .discarding) (hf : a.fetch = some f) :
    a.takeRead k = { a with fetchState := .waiting, stallCounted := false } := by
  simp [Axis.takeRead, hs, hf]

end

/-- The completion of a read: its axis takes the knot, and joins the pending set again where it asks for a
further one. -/
theorem completeRead_of_reading {s : State} {r : PortRead} {b : Axis} (hr : s.port.reading = some r)
    (hb : (s.axis r.axis).takeRead (s.knotAt r) = b) {t : State}
    (ht : t = { s with port := { s.port with reading := none } }.setAxis r.axis b) :
    completeRead s =
      grantRead (resumeIfIdle (if b.fetchState = .waiting then postRead r.axis t else t)) := by
  have htake : { s with port := { s.port with reading := none } }.onAxis r.axis
      (fun a => a.takeRead (s.knotAt r)) = t := by rw [ht, ← hb]; rfl
  have hwaits : t.waiting r.axis = true ↔ b.fetchState = .waiting := by
    rw [ht, State.waiting, State.axis_setAxis_same, decide_eq_true_iff]
  simp only [completeRead, hr, htake, hwaits]

/-- Settles O39: the fetch by its phase and its knot, and the completion by the fetch state of its axis. -/
theorem readCompletionsNarrowTheFetch : Obligations.ReadCompletionsNarrowTheFetch := by
  refine ⟨fun f k => ?_, fun s r x h => knotAt_of_some h,
    ⟨fun f h => Fetch.nextIndex_between h, ?_⟩, ⟨fun s h => ?_, ?_⟩⟩
  · obtain ⟨hup, hdown, hsearch⟩ := f.nextIndex_cases
    exact ⟨hup, hdown, hsearch, Fetch.take_of_le, Fetch.take_of_lt⟩
  · rintro f g k rfl hk hwide hlow hhigh
    have hbetween := Fetch.nextIndex_between hwide
    have hhalves := f.nextIndex_halves
    rw [← hk] at hbetween hhalves
    rcases Int.lt_or_le f.time k.knot.time with h | h
    · rw [Fetch.take_of_lt h]
      exact ⟨rfl, rfl, hlow, h, le_rfl, hbetween.1, hbetween.2.le, by dsimp only; omega,
        fun hp => (hhalves hp).2⟩
    · rw [Fetch.take_of_le h]
      exact ⟨rfl, rfl, h, hhigh, hbetween.1.le, hbetween.2, le_rfl, by dsimp only; omega,
        fun hp => (hhalves hp).1⟩
  · exact whenOn_of_eq (by rw [completeRead, h])
  · rintro s idle r a hp hr rfl rfl
    have hexec : exec .knotReadCompletion s = .next (completeRead s) := whenOn_of_on hp completeRead
    rw [hexec]
    refine ⟨?_, fun hs hf => ?_, fun f hs hf => ?_⟩
    · rintro f g hs hf rfl
      refine ⟨fun hpair => ?_, fun hfurther => ?_⟩
      · rw [completeRead_of_reading hr (Axis.takeRead_of_pair hs hf hpair) rfl, if_neg (by simp)]
      · rw [completeRead_of_reading hr (Axis.takeRead_of_further hs hf hfurther) rfl, if_pos rfl]
    · rw [completeRead_of_reading hr (Axis.takeRead_of_discarded hs hf) rfl, if_neg (by simp)]
    · rw [completeRead_of_reading hr (Axis.takeRead_of_begun hs hf) rfl, if_pos rfl]

/-! ### Suspensions (R52, R53) -/

theorem raiseSuspend_of_due {s : State} (hpolicy : s.clock.settings.policy = .serve)
    (hwait : ∃ i, (s.axis i).fetchState = .waiting)
    (he : s.memory.engine = .erasing ∨ s.memory.engine = .programming) :
    raiseSuspend s = { s with port := { s.port with suspendRequest := true } } :=
  if_pos ⟨hpolicy, (anyWaiting_iff s).2 hwait, (EngineState.working_iff _).2 he⟩

theorem raiseSuspend_of_not_due {s : State}
    (h : s.clock.settings.policy = .defer ∨ (∀ i, (s.axis i).fetchState ≠ .waiting) ∨
      (s.memory.engine ≠ .erasing ∧ s.memory.engine ≠ .programming)) : raiseSuspend s = s := by
  refine if_neg ?_
  rw [anyWaiting_iff, EngineState.working_iff]
  rintro ⟨hpolicy, ⟨i, hi⟩, he⟩
  rcases h with h | h | ⟨h₁, h₂⟩
  · rw [hpolicy] at h
    cases h
  · exact h i hi
  · exact he.elim h₁ h₂

theorem resumeIfIdle_of_due {s : State} {e : EngineState}
    (he : s.memory.engine = .eraseSuspended ∧ e = .erasing ∨
      s.memory.engine = .programSuspended ∧ e = .programming)
    (hwait : ∀ i, (s.axis i).fetchState ≠ .waiting) (hfree : s.port.reading = none) :
    resumeIfIdle s =
      { s with
        memory := { s.memory with engine := e }
        port := { s.port with suspendRequest := false } } := by
  have hnone : s.anyWaiting = false := by
    rw [Bool.eq_false_iff, ne_eq, anyWaiting_iff]
    exact fun ⟨i, hi⟩ => hwait i hi
  have hengine : s.memory.engine.suspended = true ∧ s.memory.engine.resumed = e := by
    rcases he with ⟨he, rfl⟩ | ⟨he, rfl⟩ <;> rw [he] <;> exact ⟨rfl, rfl⟩
  rw [resumeIfIdle, if_pos ⟨hengine.1, hnone, hfree⟩, hengine.2]
  rfl

theorem resumeIfIdle_of_not_due {s : State}
    (h : s.memory.engine.suspended = false ∨ (∃ i, (s.axis i).fetchState = .waiting) ∨
      s.port.reading ≠ none) : resumeIfIdle s = s := by
  refine if_neg ?_
  rintro ⟨hsuspended, hnone, hfree⟩
  rcases h with h | h | h
  · rw [h] at hsuspended
    cases hsuspended
  · rw [(anyWaiting_iff s).2 h] at hnone
    cases hnone
  · exact h hfree

/-! ### The Table Stall count (R54) -/

/-- Axis `i` waits for a read that the Table Stall count has not taken. -/
def State.uncounted (s : State) (i : AxisIdx) : Bool :=
  decide ((s.axis i).fetchState = .waiting ∧ (s.axis i).stallCounted = false)

section
variable (s : State)

theorem countStall_of_uncounted {i : AxisIdx} (h : s.uncounted i = true) :
    countStall s i =
      { s with memory := { s.memory with stalls := min 65535 (s.memory.stalls + 1) } }.setAxis i
        { s.axis i with stallCounted := true } := by
  simp only [State.uncounted, decide_eq_true_eq] at h
  rw [countStall, if_pos (by simpa [State.waiting] using h)]
  rfl

theorem countStall_of_not_uncounted {i : AxisIdx} (h : s.uncounted i = false) : countStall s i = s := by
  simp only [State.uncounted, decide_eq_false_iff_not] at h
  rw [countStall, if_neg (by simpa [State.waiting] using h)]

theorem countStall_stalls {i : AxisIdx} (h : s.memory.stalls ≤ 65535) :
    (countStall s i).memory.stalls =
      min 65535 (s.memory.stalls + if s.uncounted i then 1 else 0) := by
  cases hu : s.uncounted i with
  | true => rw [countStall_of_uncounted s hu]; rfl
  | false =>
    rw [countStall_of_not_uncounted s hu, if_neg Bool.false_ne_true]
    omega

/-- A counted read is marked, and no other axis changes. -/
theorem countStall_axis (i j : AxisIdx) :
    (countStall s i).axis j =
      if i = j ∧ (s.axis j).fetchState = .waiting then { s.axis j with stallCounted := true }
      else s.axis j := by
  cases hu : s.uncounted i with
  | true =>
    have hwait := (of_decide_eq_true hu).1
    rw [countStall_of_uncounted s hu, State.axis_setAxis]
    by_cases hij : i = j
    · subst hij; simp [hwait]
    · rw [if_neg hij, if_neg fun h => hij h.1]; rfl
  | false =>
    have hnot := of_decide_eq_false hu
    rw [countStall_of_not_uncounted s hu]
    split
    · rename_i h
      obtain ⟨rfl, hwait⟩ := h
      have hmark : (s.axis i).stallCounted = true := by simpa [hwait] using hnot
      rw [← hmark]
    · rfl

theorem countStall_frame (i : AxisIdx) :
    ∃ v n, countStall s i = { s with axes := v, memory := { s.memory with stalls := n } } := by
  rcases countStall_cases s i with h | h <;> exact ⟨_, _, h⟩

theorem uncounted_countStall_of_ne {i j : AxisIdx} (h : i ≠ j) :
    (countStall s i).uncounted j = s.uncounted j := by
  rw [State.uncounted, countStall_axis, if_neg fun hij => h hij.1]
  rfl

variable {s}

theorem foldl_countStall_stalls {l : List AxisIdx} (hl : l.Nodup) (h : s.memory.stalls ≤ 65535) :
    (l.foldl countStall s).memory.stalls =
      min 65535 (s.memory.stalls + (l.filter s.uncounted).length) := by
  induction l generalizing s with
  | nil => simp [h]
  | cons i l ih =>
    obtain ⟨hi, hl⟩ := List.nodup_cons.1 hl
    have hstalls := countStall_stalls s (i := i) h
    have hrest : l.filter (countStall s i).uncounted = l.filter s.uncounted :=
      List.filter_congr fun j hj => uncounted_countStall_of_ne s fun e => hi (e ▸ hj)
    rw [List.foldl_cons, ih hl (by omega), hrest, hstalls, List.filter_cons]
    cases s.uncounted i with
    | true => rw [if_pos rfl, if_pos rfl, List.length_cons]; omega
    | false => rw [if_neg Bool.false_ne_true, if_neg Bool.false_ne_true]; omega

theorem foldl_countStall_axis (l : List AxisIdx) (j : AxisIdx) :
    (l.foldl countStall s).axis j =
      if j ∈ l ∧ (s.axis j).fetchState = .waiting then { s.axis j with stallCounted := true }
      else s.axis j := by
  induction l generalizing s with
  | nil => simp
  | cons i l ih =>
    rw [List.foldl_cons, ih, countStall_axis]
    by_cases hw : (s.axis j).fetchState = .waiting
    · by_cases hij : i = j
      · subst hij; simp [hw]
      · simp [hw, hij, Ne.symm hij]
    · simp [hw]

theorem foldl_countStall_frame (l : List AxisIdx) :
    ∃ v n, l.foldl countStall s = { s with axes := v, memory := { s.memory with stalls := n } } := by
  induction l generalizing s with
  | nil => exact ⟨_, _, rfl⟩
  | cons i l ih =>
    obtain ⟨v, n, h⟩ := countStall_frame s i
    rw [List.foldl_cons, h]
    exact ih

theorem countStalls_of_serve (h : s.clock.settings.policy = .serve) : countStalls s = s :=
  if_neg (by simp [h])

theorem countStalls_of_defer (h : s.clock.settings.policy = .defer) :
    countStalls s = allAxes.foldl countStall s := if_pos h

end

/-! ### A read that joins the pending set (R50, R52, R54) -/

theorem postRead_of_defer {s : State} (hg : s.memory.engine.grants = false)
    (hp : s.clock.settings.policy = .defer) (i : AxisIdx) : postRead i s = countStall s i := by
  simp [postRead, hg, hp]

theorem postRead_of_serve {s : State} (hg : s.memory.engine.grants = false)
    (hp : s.clock.settings.policy = .serve) (i : AxisIdx) : postRead i s = raiseSuspend s := by
  simp [postRead, hg, hp]

theorem postRead_of_serve_waiting {s : State} {i : AxisIdx}
    (he : s.memory.engine = .erasing ∨ s.memory.engine = .programming ∨ s.memory.engine = .aborting)
    (hp : s.clock.settings.policy = .serve) (hw : (s.axis i).fetchState = .waiting) :
    postRead i s =
      if s.memory.engine = .aborting then s
      else { s with port := { s.port with suspendRequest := true } } := by
  rw [postRead_of_serve ((EngineState.grants_eq_false_iff _).2 he) hp]
  split
  · rename_i habort
    exact raiseSuspend_of_not_due (.inr (.inr (by simp [habort])))
  · rename_i habort
    exact raiseSuspend_of_due hp ⟨i, hw⟩ (he.imp_right (Or.resolve_right · habort))

theorem evaluateAxis_of_joins {u : LaneUpdate} {i : AxisIdx} {s t : State}
    (ht : t = s.setAxis i ((s.axis i).evaluate s u)) (hw : (t.axis i).fetchState = .waiting)
    (hb : (s.axis i).fetchState ≠ .waiting) : evaluateAxis u i s = postRead i t := by
  subst ht
  exact if_pos ⟨decide_eq_true hw, decide_eq_false hb⟩

theorem evaluateAxis_of_not_joins {u : LaneUpdate} {i : AxisIdx} {s t : State}
    (ht : t = s.setAxis i ((s.axis i).evaluate s u))
    (h : (t.axis i).fetchState ≠ .waiting ∨ (s.axis i).fetchState = .waiting) :
    evaluateAxis u i s = t := by
  subst ht
  exact if_neg fun ⟨hw, hb⟩ => h.elim (· (of_decide_eq_true hw)) (of_decide_eq_false hb)

/-- Settles O42, each part of the port by the conditions it acts on. -/
theorem portActsOnThePendingSet : Obligations.PortActsOnThePendingSet := by
  refine ⟨fun s => ⟨raiseSuspend_of_due, raiseSuspend_of_not_due⟩,
    fun s e he => ⟨resumeIfIdle_of_due he, fun h => resumeIfIdle_of_not_due (.inr h)⟩,
    fun s => ⟨anyWaiting_iff s, fun he =>
      resumeIfIdle_of_not_due (.inl ((EngineState.suspended_eq_false_iff _).2 he))⟩, ?_, ?_, ?_,
    fun u i s t ht => ⟨evaluateAxis_of_joins ht, evaluateAxis_of_not_joins ht⟩⟩
  · rintro s t rfl
    refine ⟨countStalls_of_serve, fun hp => ?_⟩
    have hall : ∀ i : AxisIdx, i ∈ allAxes := by decide
    rw [countStalls_of_defer hp]
    refine ⟨foldl_countStall_stalls (by decide), fun i => ?_, ?_⟩
    · rw [foldl_countStall_axis]
      exact ⟨fun hw => if_pos ⟨hall i, hw⟩, fun hw => if_neg fun h => hw h.2⟩
    · obtain ⟨v, n, h⟩ := foldl_countStall_frame (s := s) allAxes
      rw [h]
  · rintro s i a rfl
    refine ⟨fun hw hc => countStall_of_uncounted s (decide_eq_true ⟨hw, hc⟩),
      fun h => countStall_of_not_uncounted s (decide_eq_false fun ⟨hw, hc⟩ => ?_)⟩
    rcases h with h | h
    · exact h hw
    · rw [hc] at h
      cases h
  · refine fun s i => ⟨fun he => postRead_of_grants ((EngineState.grants_iff _).2 he) i, fun he =>
      ⟨fun hp => postRead_of_defer ((EngineState.grants_eq_false_iff _).2 he) hp i,
        postRead_of_serve_waiting he⟩⟩

end Sys2Proof.Machine
end

section
/-! Table Memory (spec/04): the end of a rewrite, the events of the Rewrite Engine and what a stopped phase
leaves, COMMIT and ABORT_REWRITE, with the statements about them (O40, O41, O44). -/

namespace Sys2Proof.Machine

/-! ### The end of a rewrite (R71) -/

/-- What the end of a rewrite leaves of the unit, but for Table Memory's contents, records and Directory. -/
theorem closeRewrite_frame (outcome : RewriteOutcome) (record : SegmentRecord) (image : SegmentImage)
    (r : Rewrite) (s : State) :
    closeRewrite outcome record image r s =
      { s with
        memory :=
          { s.memory with
            images := (closeRewrite outcome record image r s).memory.images
            records := (closeRewrite outcome record image r s).memory.records
            directory := (closeRewrite outcome record image r s).memory.directory
            lastOutcome := some (outcome, r.segment), staging := { header := none, slots := [] }
            engine := .idle, rewrite := none }
        link := { s.link with attention := { s.link.attention with rewriteEnd := true } }
        port := { s.port with suspendRequest := false } } := by
  obtain ⟨segment, eraseOnly, old, new⟩ := r
  cases old <;> cases new <;> rfl

/-- Settles O41: Table Memory's maps are read after their writes, the entries are those of
`closeRewrite_entry`, and the rest is the frame. -/
theorem endOfARewriteLeavesTheEngineIdle : Obligations.EndOfARewriteLeavesTheEngineIdle := by
  rintro outcome record image r s t rfl
  refine ⟨rfl, fun _ _ _ => ?_⟩
  obtain ⟨himages, hrecords, -⟩ := closeRewrite_memory outcome record image r s
  have hrecord : ∀ k, (closeRewrite outcome record image r s).memory.record k =
      (s.memory.setRecord r.segment record).record k := fun k => by
    rw [TableMemory.record, hrecords, TableMemory.record]
  have himage : ∀ k, (closeRewrite outcome record image r s).memory.image k =
      (s.memory.setImage r.segment image).image k := fun k => by
    rw [TableMemory.image, himages, TableMemory.image]
  have hentry := closeRewrite_entry outcome record image r s
  rw [← hrecords] at hentry
  refine ⟨(hrecord _).trans (TableMemory.record_setRecord_same _ _ _),
    (himage _).trans (TableMemory.image_setImage_same _ _ _),
    fun k hk => ⟨(hrecord k).trans (TableMemory.record_setRecord_ne _ hk _),
      (himage k).trans (TableMemory.image_setImage_ne _ hk _)⟩, ?_⟩
  rw [closeRewrite_frame] at hentry ⊢
  exact ⟨rfl, rfl, rfl, rfl, rfl, rfl, hentry, rfl, rfl, rfl, rfl, rfl, rfl⟩

/-! ### A phase that stops (R58, R69, R70, R72, R73) -/

theorem stopPhase_of_none {s : State} (h : s.memory.engine = .idle ∨ s.memory.rewrite = none) :
    stopPhase s = s := by
  rcases stopPhase_cases s with he | ⟨r, hengine, hr, -⟩
  · exact he
  · rcases h with h | h
    · exact absurd h hengine
    · rw [h] at hr
      cases hr

theorem stopPhase_of_some {s : State} {r : Rewrite} (he : s.memory.engine ≠ .idle)
    (hr : s.memory.rewrite = some r) :
    stopPhase s =
      { s with
        memory := s.memory.setImage r.segment (s.memory.stopped s.draws r), draws := s.draws + 1 } := by
  unfold stopPhase
  cases hengine : s.memory.engine with
  | idle => exact absurd hengine he
  | erasing | eraseSuspended | programming | programSuspended | aborting => simp only [hr]; rfl

/-- What an erase has not yet cleared, and what a FAILED read-back shows, is some of what was there. -/
theorem SegmentImage.keeping_within (draw : Nat) (x : SegmentImage) : (x.keeping draw).Within x := by
  refine ⟨?_, fun k => ?_, fun h => ⟨?_, keeping_marker h⟩⟩
  · simp only [keeping]
    split <;> simp
  · simp only [keeping, sparseGet_filter]
    split <;> simp
  · simp only [keeping, Bool.and_eq_true] at h
    exact h.1.1

/-- What a segment holds after a first part of the program phase is the first part of the staged image. -/
theorem SegmentImage.written_writtenFrom (n : Nat) (g : Staging) (x : SegmentImage) :
    (x.written n g).WrittenFrom x g := by
  intro h hh
  refine ⟨n, fun k => ?_, ?_, fun hm => ?_⟩
  · simp only [written, hh]
    rw [sparseGet_filter fun j =>
      decide (j < h.count) && (decide (j < n) || (sparseGet j x.slots).isSome)]
    simp [Option.isSome_iff_ne_none]
  · simp only [written, hh]
  · simp only [written, hh, Bool.and_eq_true, Bool.or_eq_true, decide_eq_true_eq] at hm ⊢
    exact hm

theorem stopped_stoppedImage (s : State) (r : Rewrite) :
    StoppedImage s r (s.memory.stopped s.draws r) := by
  unfold TableMemory.stopped
  cases he : s.memory.engine with
  | erasing =>
    exact ⟨rfl, fun _ => SegmentImage.keeping_within _ _, by simp [he], fun h => absurd he h⟩
  | programming =>
    exact ⟨rfl, by simp [he], fun _ => SegmentImage.written_writtenFrom _ _ _,
      fun _ h => absurd he h⟩
  | idle | eraseSuspended | programSuspended | aborting =>
    exact ⟨rfl, by simp [he], by simp [he], fun _ _ => rfl⟩

/-! ### The Rewrite Engine's events (R69 to R73) -/

theorem suspendAcknowledge_of_due {s : State} (hreq : s.port.suspendRequest = true)
    (he : s.memory.engine = .erasing ∨ s.memory.engine = .programming) :
    suspendAcknowledge s =
      grantRead (resumeIfIdle
        (((stopPhase s).setEngine s.memory.engine.afterAcknowledge).setSuspendRequest false)) :=
  if_pos ⟨hreq, (EngineState.working_iff _).2 he⟩

theorem suspendAcknowledge_of_not_due {s : State}
    (h : s.port.suspendRequest = false ∨
      (s.memory.engine ≠ .erasing ∧ s.memory.engine ≠ .programming)) : suspendAcknowledge s = s := by
  refine if_neg ?_
  rw [EngineState.working_iff]
  rintro ⟨hreq, he⟩
  rcases h with h | ⟨h₁, h₂⟩
  · rw [hreq] at h
    cases h
  · exact he.elim h₁ h₂

theorem eraseComplete_of_not_due {s : State} (h : s.memory.engine ≠ .erasing ∨ s.memory.rewrite = none) :
    eraseComplete s = s := by
  unfold eraseComplete
  split
  · rename_i he hr
    simp [he, hr] at h
  · rfl

theorem programComplete_of_not_due {s : State}
    (h : s.memory.engine ≠ .programming ∨ s.memory.rewrite = none) (verified : Bool) :
    programComplete verified s = s := by
  unfold programComplete
  split
  · rename_i he hr
    simp [he, hr] at h
  · rfl

theorem abortComplete_of_not_due {s : State} (h : s.memory.engine ≠ .aborting ∨ s.memory.rewrite = none) :
    abortComplete s = s := by
  unfold abortComplete
  split
  · rename_i he hr
    simp [he, hr] at h
  · rfl

section
variable {s : State} {r : Rewrite}

theorem eraseComplete_of_some (he : s.memory.engine = .erasing) (hr : s.memory.rewrite = some r) :
    eraseComplete s =
      if r.eraseOnly then endRewrite .erased .blank SegmentImage.erased r s
      else
        raiseSuspend
          ({ s with
             memory := s.memory.setImage r.segment { SegmentImage.erased with openMark := true } }.setEngine
            .programming) := by
  simp only [eraseComplete, he, hr]

theorem abortComplete_of_some (he : s.memory.engine = .aborting) (hr : s.memory.rewrite = some r) :
    abortComplete s =
      endRewrite .aborted .torn { s.memory.image r.segment with openMark := true } r s := by
  simp only [abortComplete, he, hr]

theorem programmed_of_some {g : Staging} {h : Header} {first last : Knot} (hh : g.header = some h)
    (hfirst : sparseGet 0 g.slots = some first) (hlast : sparseGet (h.count - 1) g.slots = some last) :
    programmed g = some (.valid h first last,
      { header := some h, slots := g.slots.filter (fun e => decide (e.1 < h.count)), marker := true
        openMark := false }) := by
  simp [programmed, hh, hfirst, hlast]

theorem programComplete_of_verified {record : SegmentRecord} {image : SegmentImage}
    (he : s.memory.engine = .programming) (hr : s.memory.rewrite = some r)
    (hp : programmed s.memory.staging = some (record, image)) :
    programComplete true s = endRewrite .verified record image r s := by
  simp only [programComplete, he, hr, hp]

end

/-- A FAILED read-back shows some or all of the whole staged image (R70). -/
theorem SegmentImage.keeping_written_within (draw : Nat) (x : SegmentImage) {g : Staging} {h : Header}
    (hh : g.header = some h) :
    ((x.written g.writes g).keeping draw).Within
      { header := some h, slots := g.slots.filter (fun e => decide (e.1 < h.count)), marker := true
        openMark := true } := by
  obtain ⟨hheader, hslots, hmarker⟩ := (x.written g.writes g).keeping_within draw
  have hwhole : (x.written g.writes g).header = some h := by
    simp [written, Staging.writes, hh]
  have hknots : ∀ k, sparseGet k (x.written g.writes g).slots =
      sparseGet k (g.slots.filter (fun e => decide (e.1 < h.count))) := fun k => by
    simp only [written, Staging.writes, hh]
    rw [sparseGet_filter fun j =>
        decide (j < h.count) && (decide (j < h.count + 2) || (sparseGet j x.slots).isSome),
      sparseGet_filter fun j => decide (j < h.count)]
    by_cases hk : k < h.count
    · simp [hk, show k < h.count + 2 by omega]
    · simp [hk]
  exact ⟨hwhole ▸ hheader, fun k => hknots k ▸ hslots k, fun hm => ⟨rfl, (hmarker hm).2⟩⟩

theorem programComplete_of_failed {s : State} {r : Rewrite} {h : Header}
    (he : s.memory.engine = .programming) (hr : s.memory.rewrite = some r)
    (hh : s.memory.staging.header = some h) :
    ∃ image : SegmentImage, image.openMark = true ∧
      image.Within
        { header := some h
          slots := s.memory.staging.slots.filter (fun e => decide (e.1 < h.count))
          marker := true, openMark := true } ∧
      programComplete false s = endRewrite .failed .torn image r s.afterDraw := by
  refine ⟨{ ((s.memory.image r.segment).written s.memory.staging.writes s.memory.staging).keeping s.draws
      with openMark := true }, rfl, SegmentImage.keeping_written_within _ _ hh, ?_⟩
  simp only [programComplete, he, hr]

/-- Settles O40: each event where it is due and where it is not, and the segment a stopped phase leaves. -/
theorem rewriteEngineEventsTakeTheirStep : Obligations.RewriteEngineEventsTakeTheirStep := by
  refine ⟨fun s hp => ⟨fun hreq he => ?_, fun hreq he => ?_,
      fun h => whenOn_of_eq (eraseComplete_of_not_due h),
      fun h b => whenOn_of_eq (programComplete_of_not_due h b),
      fun h => whenOn_of_eq (abortComplete_of_not_due h),
      fun h => whenOn_of_eq (suspendAcknowledge_of_not_due h)⟩,
    fun s h => stopPhase_of_none h,
    fun s r he hr => ⟨_, stopped_stoppedImage s r, stopPhase_of_some he hr⟩,
    fun s r hp hr => ?_⟩
  · refine (whenOn_of_on hp suspendAcknowledge).trans ?_
    rw [suspendAcknowledge_of_due hreq (.inl he), he]
    rfl
  · refine (whenOn_of_on hp suspendAcknowledge).trans ?_
    rw [suspendAcknowledge_of_due hreq (.inr he), he]
    rfl
  · have herase := whenOn_of_on hp eraseComplete
    refine ⟨fun he hk => herase.trans ?_, fun he hk => herase.trans ?_,
      fun h first last he hh hfirst hlast => (whenOn_of_on hp (programComplete true)).trans ?_,
      fun h he hh => ?_,
      fun he => (whenOn_of_on hp abortComplete).trans ?_⟩
    · rw [eraseComplete_of_some he hr, if_pos hk]
      rfl
    · rw [eraseComplete_of_some he hr, hk]
      rfl
    · rw [programComplete_of_verified he hr (programmed_of_some hh hfirst hlast)]
    · obtain ⟨image, hopen, hwithin, heq⟩ := programComplete_of_failed he hr hh
      exact ⟨image, hopen, hwithin, (whenOn_of_on hp (programComplete false)).trans (by rw [heq]; rfl)⟩
    · rw [abortComplete_of_some he hr]

/-! ### The checks of COMMIT (R67) -/

theorem presentTable_iff (x : SegmentRecord) (id : TableId) :
    x.presentTable = some id ↔ ∃ h first last, x = .valid h first last ∧ h.table = id := by
  cases x <;> simp [SegmentRecord.presentTable]

theorem boundOutsideOff_iff (s : State) (x : Option TableId) :
    s.boundOutsideOff x = true ↔
      ∃ i id, (s.axis i).state ≠ .off ∧ inSet (s.entry id).bound i = true ∧ x = some id := by
  have hall : ∀ i : AxisIdx, i ∈ allAxes := by decide
  cases x <;> simp [State.boundOutsideOff, hall, and_comm]

/-- Check 3: an axis outside OFF is bound to the segment's table, or to the staged one. -/
theorem segInUse_iff (s : State) (segment : Nat) :
    (s.boundOutsideOff (s.memory.record segment).presentTable ||
        s.boundOutsideOff (s.memory.staging.header.map Header.table)) = true ↔
      ∃ i id, (s.axis i).state ≠ .off ∧ inSet (s.entry id).bound i = true ∧
        ((∃ h first last, s.memory.record segment = .valid h first last ∧ h.table = id) ∨
          ∃ h, s.memory.staging.header = some h ∧ h.table = id) := by
  simp only [Bool.or_eq_true, boundOutsideOff_iff, presentTable_iff, Option.map_eq_some_iff, and_or_left,
    exists_or]

/-- Check 4. -/
theorem Staging.filled_iff (g : Staging) :
    g.filled = true ↔
      ∃ h, g.header = some h ∧ ∀ k, k < h.count → sparseGet k g.slots ≠ none := by
  cases hh : g.header <;> simp [Staging.filled, imageComplete, hh, Option.isSome_iff_ne_none]

/-- The times rise from knot to knot. -/
theorem timesRise_iff {slots : Sparse Knot} {n k : Nat} {x : Knot} (hx : sparseGet k slots = some x)
    (hfill : ∀ j, j < k + 1 + n → sparseGet j slots ≠ none) :
    timesRise slots (k + 1) n x.time = true ↔
      ∀ j y z, k ≤ j → j < k + n → sparseGet j slots = some y → sparseGet (j + 1) slots = some z →
        y.time < z.time := by
  induction n generalizing k x with
  | zero => simpa [timesRise] using fun j _ _ h₁ h₂ => absurd h₁ (by omega)
  | succ n ih =>
    obtain ⟨x', hx'⟩ := Option.ne_none_iff_exists'.1 (hfill (k + 1) (by omega))
    simp only [timesRise, hx', Bool.and_eq_true, decide_eq_true_eq]
    rw [ih hx' fun j hj => hfill j (by omega)]
    constructor
    · rintro ⟨hlt, hrest⟩ j y z hkj hjn hy hz
      rcases Nat.eq_or_lt_of_le hkj with rfl | hlater
      · rw [hx] at hy
        rw [hx'] at hz
        cases hy
        cases hz
        exact hlt
      · exact hrest j y z hlater (by omega) hy hz
    · exact fun h => ⟨h k x x' le_rfl (by omega) hx hx',
        fun j y z hkj hjn => h j y z (by omega) (by omega)⟩

/-- Check 5, of a whole image. -/
theorem Staging.ordered_iff {g : Staging} {h : Header} (hh : g.header = some h) (hcount : 1 ≤ h.count)
    (hfill : ∀ k, k < h.count → sparseGet k g.slots ≠ none) :
    g.ordered = true ↔
      ∀ k x y, k + 1 < h.count → sparseGet k g.slots = some x → sparseGet (k + 1) g.slots = some y →
        x.time < y.time := by
  obtain ⟨first, hfirst⟩ := Option.ne_none_iff_exists'.1 (hfill 0 (by omega))
  simp only [Staging.ordered, hh, hfirst]
  rw [timesRise_iff (k := 0) hfirst fun j hj => hfill j (by omega)]
  exact ⟨fun hr k x y hk => hr k x y (Nat.zero_le k) (by omega),
    fun hr k x y _ hk => hr k x y (by omega)⟩

/-! ### COMMIT (R67, R68) -/

section
variable {s : State} {segment : BitVec 16} {erase : Byte}

/-- Check 1, on the two fields. -/
theorem doCommit_of_range (h : 256 ≤ segment.toNat ∨ 1 < erase.toNat) :
    doCommit segment erase s = answerRefused .outOfRange s := by
  have hcode : commitRefusal segment.toNat (readFlag erase) s = some .outOfRange := by
    by_cases hflag : erase.toNat ≤ 1
    · rw [readFlag_eq, if_pos hflag]
      exact if_pos (h.resolve_right (by omega))
    · rw [readFlag_eq, if_neg hflag]
      rfl
  rw [doCommit, hcode]

/-- A COMMIT whose fields are in range: checks 2 to 5 in their order, then what its
acceptance starts. -/
theorem doCommit_of_in_range (hsegment : segment.toNat < 256) (hflag : erase.toNat ≤ 1) :
    doCommit segment erase s =
      if s.memory.engine ≠ .idle then answerRefused .rewriteBusy s
      else if (s.boundOutsideOff (s.memory.record segment.toNat).presentTable ||
          s.boundOutsideOff (s.memory.staging.header.map Header.table)) = true then
        answerRefused .segInUse s
      else if erase.toNat = 0 ∧ ¬s.memory.staging.filled = true then answerRefused .incomplete s
      else if erase.toNat = 0 ∧ ¬s.memory.staging.ordered = true then answerRefused .disorder s
      else
        answerDone (raiseSuspend (countStalls
          { s with memory := s.memory.accept segment.toNat (decide (erase.toNat = 1)) })) := by
  have herase : erase.toNat = 0 ↔ ¬erase.toNat = 1 := by omega
  rw [doCommit, readFlag_eq, if_pos hflag]
  simp only [commitRefusal, if_neg (Nat.not_le.2 hsegment), herase, Bool.and_eq_true, Bool.not_eq_true',
    Bool.not_eq_true, decide_eq_false_iff_not, Option.getD_some]
  split_ifs <;> rfl

end

/-! ### ABORT_REWRITE (R54, R73) -/

theorem doAbortRewrite_of_refused {s : State}
    (h : s.memory.engine = .idle ∨ s.memory.engine = .aborting) :
    doAbortRewrite s = answerRefused .wrongState s := by
  rcases h with h | h <;> simp only [doAbortRewrite, h]

theorem doAbortRewrite_of_working {s : State}
    (h : s.memory.engine = .erasing ∨ s.memory.engine = .programming) :
    doAbortRewrite s =
      answerDone (((stopPhase s).setEngine .aborting).setSuspendRequest false) := by
  rcases h with h | h <;> simp only [doAbortRewrite, h]

theorem doAbortRewrite_of_suspended {s : State}
    (h : s.memory.engine = .eraseSuspended ∨ s.memory.engine = .programSuspended) :
    doAbortRewrite s =
      answerDone (countStalls (((stopPhase s).setEngine .aborting).setSuspendRequest false)) := by
  rcases h with h | h <;> simp only [doAbortRewrite, h]

/-- Settles O44: the checks in their order, each read as the statement puts it, and ABORT_REWRITE by the
engine's state. -/
theorem commitIsCheckedInOrder : Obligations.CommitIsCheckedInOrder := by
  refine ⟨fun _ _ _ => rfl, by simp [SegmentRecord.presentTable], ?_⟩
  intro o s segment erase ht inUse filled ordered hinUse hfilled hordered
  have hexec : exec (.commit o segment erase) s = .next (answered o 0x2B (doCommit segment erase s)) :=
    exec_of_takes ht (.commit segment erase) rfl fun _ => rfl
  have habort : exec (.abortRewrite o) s = .next (answered o 0x2C (doAbortRewrite s)) :=
    exec_of_takes ht .abortRewrite rfl fun _ => rfl
  rw [← segInUse_iff] at hinUse
  rw [← Staging.filled_iff] at hfilled
  have hcheck : filled → (∀ h, s.memory.staging.header = some h → 1 ≤ h.count) →
      (s.memory.staging.ordered = true ↔ ordered) := fun hf hcount => by
    obtain ⟨h, hh, hfill⟩ := (Staging.filled_iff _).1 (hfilled.1 hf)
    rw [Staging.ordered_iff hh (hcount h hh) hfill, hordered]
    exact ⟨fun hr h' k x y hh' => (Option.some.inj (hh.symm.trans hh')) ▸ hr k x y,
      fun hr k x y => hr h k x y hh⟩
  refine ⟨fun h => by rw [hexec, doCommit_of_range h], fun hsegment hflag => ?_,
    fun h => by rw [habort, doAbortRewrite_of_refused h],
    fun h => by rw [habort, doAbortRewrite_of_working h],
    fun h => by rw [habort, doAbortRewrite_of_suspended h]⟩
  rw [hexec, doCommit_of_in_range hsegment hflag]
  refine ⟨fun he => ?_, fun he hu => ?_, fun he hu h0 hf => ?_, fun he hu h0 hf ho => ?_,
    fun he hu hwhole hcount => ?_⟩
  · rw [if_pos he]
  · rw [if_neg (not_not.2 he), if_pos (hinUse.1 hu)]
  · rw [if_neg (not_not.2 he), if_neg (mt hinUse.2 hu), if_pos ⟨h0, mt hfilled.2 hf⟩]
  · have hcount : ∀ h, s.memory.staging.header = some h → 1 ≤ h.count := fun h hh => by
      by_contra hempty
      refine ho (hordered.2 fun h' k x y hh' hk => absurd hk ?_)
      rw [← Option.some.inj (hh.symm.trans hh')]
      omega
    rw [if_neg (not_not.2 he), if_neg (mt hinUse.2 hu), if_neg fun h => h.2 (hfilled.1 hf),
      if_pos ⟨h0, mt (hcheck hf hcount).1 ho⟩]
  · rw [if_neg (not_not.2 he), if_neg (mt hinUse.2 hu),
      if_neg fun h => h.2 (hfilled.1 (hwhole h.1).1),
      if_neg fun h => h.2 ((hcheck (hwhole h.1).1 hcount).2 (hwhole h.1).2)]
    exact ⟨_, rfl, rfl, rfl⟩

end Sys2Proof.Machine
end

section
/-! ENABLE, DISABLE and FAULT_ACK (spec/06), and the statement about them (O24). -/

namespace Sys2Proof.Machine

/-! ### ENABLE (R96, R97, R135) -/

theorem Axis.configsAgree_iff (a : Axis) :
    a.configsAgree = true ↔
      a.motion.softMin < a.motion.softMax ∧
        (a.motion.kind = .bounded →
          a.motion.softMin ≤ a.sense.homeOffset ∧ a.sense.homeOffset ≤ a.motion.softMax) ∧
        (a.sense.homeMode = .switchIndex → a.sense.encoderMode ≠ .none) := by
  have hkind : ∀ k : AxisKind, k = .wrapping ↔ ¬k = .bounded := fun k => by cases k <;> simp
  simp only [Axis.configsAgree, Bool.and_eq_true, Bool.or_eq_true, decide_eq_true_eq, hkind, and_assoc,
    ← imp_iff_not_or, ne_eq]

/-- Check 4 of ENABLE, spelt out: the law's table is COMPLETE and no rewrite concerns it. -/
theorem lawUsable_iff_complete (s : State) (law : Law) :
    s.lawUsable law = true ↔
      ∀ id offset, law = .table id offset → (s.entry id).state = .complete ∧
        ∀ r, s.memory.engine ≠ .idle → s.memory.rewrite = some r →
          r.oldTable ≠ some id ∧ r.newTable ≠ some id := by
  have husable : ∀ id, s.memory.usable id = true ↔ (s.entry id).state = .complete ∧
      ∀ r, s.memory.engine ≠ .idle → s.memory.rewrite = some r →
        r.oldTable ≠ some id ∧ r.newTable ≠ some id := fun id => by
    rw [TableMemory.usable_iff, ← Bool.not_eq_true, TableMemory.concerns_iff, State.entry]
    simp only [not_and, not_exists, not_or, ne_eq]
    exact and_congr_right fun _ => ⟨fun h r he hr => h he r hr, fun h he r hr => h r he hr⟩
  simp only [lawUsable_iff, Law.tableId_iff, husable]
  exact ⟨fun h id offset hlaw => h id ⟨offset, hlaw⟩, fun h id ⟨offset, hlaw⟩ => h id offset hlaw⟩

/-- The checks of an ENABLE in their order, on the axis it names. -/
theorem doEnable_of_names {axis : Byte} {i : AxisIdx} (hn : Names axis i) (s : State) :
    doEnable axis s =
      if (s.axis i).state ≠ .off then answerRefused .wrongState s
      else if s.clock.haltLine.active = true then answerRefused .halted s
      else if ¬(s.axis i).configsAgree = true then answerRefused .outOfRange s
      else if ¬s.lawUsable (s.axis i).law = true then answerRefused .tableUnusable s
      else answerDone (s.setAxis i (s.axis i).enable) := by
  rw [doEnable, onAxisIndex_of_names hn, enableRefusal]
  simp only [Bool.not_eq_true, Bool.not_eq_true']
  split_ifs <;> rfl

/-- A value given to M, with the soft limits in order (R37). -/
theorem Axis.giveTarget_eq {a : Axis} (h : a.motion.softMin ≤ a.motion.softMax) (x : Int) :
    a.giveTarget x =
      { a with
        m :=
          if a.motion.kind = .bounded ∧ a.homed = true then
            max a.motion.softMin (min a.motion.softMax x)
          else x
        clamped :=
          if a.motion.kind = .bounded ∧ a.homed = true then
            decide (x < a.motion.softMin ∨ a.motion.softMax < x)
          else a.clamped } := by
  unfold Axis.giveTarget
  split
  · rw [Axis.clampTarget, clamp_eq_max_min h, Bool.decide_or]
  · rfl

/-- The encoder tied to C (R135). -/
theorem Axis.tieEncoder_eq (a : Axis) :
    a.tieEncoder =
      { a with
        encoder :=
          if a.sense.encoderMode = .none then a.encoder
          else
            { a.encoder with
              offset :=
                max (-2 ^ 63) (min (2 ^ 63 - 1)
                  (a.c - Int.fdiv (a.encoder.count * a.motion.steps) a.sense.counts)) } } := by
  unfold Axis.tieEncoder
  split
  · rfl
  · rw [sat64_eq_max_min]
    rfl

/-- What an accepted ENABLE leaves of the axis. -/
theorem Axis.enable_eq {a : Axis} (h : a.motion.softMin ≤ a.motion.softMax) :
    a.enable =
      { a with
        state := .ready, v := 0, bracket := .none
        m :=
          if a.motion.kind = .bounded ∧ a.homed = true then
            max a.motion.softMin (min a.motion.softMax a.c)
          else a.c
        clamped :=
          if a.motion.kind = .bounded ∧ a.homed = true then
            decide (a.c < a.motion.softMin ∨ a.motion.softMax < a.c)
          else a.clamped
        encoder :=
          if a.homed = true ∨ a.sense.encoderMode = .none then a.encoder
          else
            { a.encoder with
              offset :=
                max (-2 ^ 63) (min (2 ^ 63 - 1)
                  (a.c - Int.fdiv (a.encoder.count * a.motion.steps) a.sense.counts)) }
        output :=
          { a.output with mode := .active, parkPending := false, enable := true, brake := false } } := by
  by_cases hhomed : a.homed = true
  · simp only [Axis.enable, Axis.giveTarget_eq h, hhomed, true_or, if_true]
    rfl
  · simp only [Axis.enable, Axis.giveTarget_eq h, Axis.tieEncoder_eq, hhomed,
      Bool.false_eq_true, false_or, if_false]
    rfl

/-! ### DISABLE and FAULT_ACK (R101, R108) -/

/-- What a DISABLE leaves of the axis. -/
theorem Axis.disable_eq (a : Axis) :
    a.disable =
      { a with
        bracket := .none, fetch := none, stallCounted := false
        fetchState :=
          if a.fetchState = .granted ∨ a.fetchState = .discarding then .discarding else .idle
        v := 0, moves := [], headStart := none, remembered := none, activeLimit := none
        stopTaken := true
        homing :=
          if a.homing.phase = .none then a.homing
          else
            { a.homing with
              phase := .none, paused := false, lastEnd := some (.ended, a.homing.phase) }
        homed := a.homed && decide (a.motion.parkMode = .holdTorque)
        state := .off
        output :=
          if a.output.window = none then
            { a.output with
              mode := .parked, parkPending := false
              enable := decide (a.motion.parkMode = .holdTorque)
              brake := decide (a.motion.parkMode = .brake) }
          else { a.output with mode := .parked, parkPending := true } } := by
  simp only [Axis.disable, abandonFetch_eq, Output.park, applyPark_eq, Homing.finish]

section
variable {axis : Byte} {i : AxisIdx} {s : State}

theorem doDisable_of_off (hn : Names axis i) (h : (s.axis i).state = .off) :
    doDisable axis s = answerDone s := by
  rw [doDisable, onAxisIndex_of_names hn]
  simp only [h]

theorem doDisable_of_faulted (hn : Names axis i) (h : (s.axis i).state = .faulted) :
    doDisable axis s = answerRefused .wrongState s := by
  rw [doDisable, onAxisIndex_of_names hn]
  simp only [h]

theorem doDisable_of_active (hn : Names axis i) (hoff : (s.axis i).state ≠ .off)
    (hfaulted : (s.axis i).state ≠ .faulted) :
    doDisable axis s = answerDone (resumeIfIdle (s.setAxis i (s.axis i).disable)) := by
  rw [doDisable, onAxisIndex_of_names hn]
  cases h : (s.axis i).state with
  | off => exact absurd h hoff
  | faulted => exact absurd h hfaulted
  | ready | homing | tracking | frozen | limited => rfl

theorem doFaultAck_of_names (hn : Names axis i) :
    doFaultAck axis s =
      if (s.axis i).state = .faulted then
        answerDone (s.setAxis i { s.axis i with state := .off, fault := FaultRecord.empty })
      else answerRefused .wrongState s := by
  rw [doFaultAck, onAxisIndex_of_names hn]
  cases h : (s.axis i).state with
  | faulted => rfl
  | off | ready | homing | tracking | frozen | limited => rfl

end

/-- Settles O24: the checks of ENABLE in their order, and the three requests by the state of their axis. -/
theorem enableDisableAndFaultAck : Obligations.EnableDisableAndFaultAck := by
  refine ⟨?_, ?_⟩
  · rintro o s axis i a ht hn rfl agree usable hagree husable
    rw [← Axis.configsAgree_iff] at hagree
    rw [← lawUsable_iff_complete] at husable
    have hexec : exec (.enable o axis) s = .next (answered o 0x13 (doEnable axis s)) :=
      exec_of_takes ht (.cueable (.enable axis)) rfl fun _ => rfl
    rw [hexec, doEnable_of_names hn]
    refine ⟨fun h => ?_, fun hoff h => ?_, fun hoff hhalt h => ?_, fun hoff hhalt ha h => ?_,
      fun hoff hhalt ha hu => ?_⟩
    · rw [if_pos h]
    · rw [if_neg (not_not.2 hoff), if_pos h]
    · rw [if_neg (not_not.2 hoff), if_neg (Bool.eq_false_iff.1 hhalt), if_pos (mt hagree.2 h)]
    · rw [if_neg (not_not.2 hoff), if_neg (Bool.eq_false_iff.1 hhalt), if_neg (not_not.2 (hagree.1 ha)),
        if_pos (mt husable.2 h)]
    · have hlimits := ((s.axis i).configsAgree_iff.1 (hagree.1 ha)).1
      rw [if_neg (not_not.2 hoff), if_neg (Bool.eq_false_iff.1 hhalt), if_neg (not_not.2 (hagree.1 ha)),
        if_neg (not_not.2 (husable.1 hu)), Axis.enable_eq hlimits.le]
  · rintro o s axis i a ht hn rfl
    have hdisable : exec (.disable o axis) s = .next (answered o 0x14 (doDisable axis s)) :=
      exec_of_takes ht (.cueable (.disable axis)) rfl fun _ => rfl
    have hack : exec (.faultAck o axis) s = .next (answered o 0x1A (doFaultAck axis s)) :=
      exec_of_takes ht (.faultAck axis) rfl fun _ => rfl
    rw [hdisable, hack, doFaultAck_of_names hn]
    refine ⟨fun h => ?_, fun h => ?_, fun hoff hfaulted => ?_, fun h => ?_, fun h => ?_⟩
    · rw [doDisable_of_off hn h]
    · rw [doDisable_of_faulted hn h]
    · rw [doDisable_of_active hn hoff hfaulted, Axis.disable_eq]
    · rw [if_pos h]
      rfl
    · rw [if_neg h]

end Sys2Proof.Machine
end

section
/-! The resets and the loss of power (spec/04, spec/11): a rewrite cut off where it stands, and a UNIT_RESET,
with the statements about them (O4, O6). -/

namespace Sys2Proof.Machine

/-! ### The segments where a reset stops a phase (R58, R77) -/

theorem stopPhase_power (s : State) : (stopPhase s).power = s.power := by
  rcases stopPhase_cases s with h | ⟨r, -, -, h⟩
  · rw [h]
  · rw [h]; rfl

theorem stopPhase_image_stopped {s : State} {r : Rewrite} (he : s.memory.engine ≠ .idle)
    (hr : s.memory.rewrite = some r) : StoppedImage s r ((stopPhase s).memory.image r.segment) := by
  have himage : (stopPhase s).memory.image r.segment = s.memory.stopped s.draws r := by
    rw [stopPhase_of_some he hr]
    exact TableMemory.image_setImage_same _ _ _
  rw [himage]
  exact stopped_stoppedImage s r

theorem stopPhase_image_kept {s : State} {k : Nat}
    (hk : ∀ r, s.memory.engine ≠ .idle → s.memory.rewrite = some r → k ≠ r.segment) :
    (stopPhase s).memory.image k = s.memory.image k := by
  rcases stopPhase_cases s with h | ⟨r, he, hr, h⟩
  · rw [h]
  · rw [h]
    exact TableMemory.image_setImage_ne _ (hk r he hr) _

theorem TableMemory.image_congr {t t' : TableMemory} (h : t'.images = t.images) (k : Nat) :
    t'.image k = t.image k := by
  rw [TableMemory.image, h, TableMemory.image]

theorem TableMemory.record_congr {t t' : TableMemory} (h : t'.records = t.records) (k : Nat) :
    t'.record k = t.record k := by
  rw [TableMemory.record, h, TableMemory.record]

/-! ### The power-on reset, the loss of power and the Reset line -/

theorem resetLineAsserted_of_powered {s : State} (h : s.power ≠ .off) :
    resetLineAsserted s = resetBlocks s.link.ownAddress .inReset s := by
  unfold resetLineAsserted
  split
  · contradiction
  all_goals rfl

theorem powerLoss_of_powered {s : State} (h : s.power ≠ .off) :
    powerLoss s = { resetBlocks 0 .off s with link := LinkPort.reset 0 } := by
  unfold powerLoss
  split
  · contradiction
  all_goals rfl

/-- Each of the three leaves a unit at its power-on reset values, with the segments as the stopped phase left
them. -/
theorem exec_reset {c : Instr} {s : State}
    (h : (∃ straps, c = .powerOnReset straps) ∨
      (s.power ≠ .off ∧ (c = .powerLoss ∨ c = .resetLineAsserted))) :
    ∃ t, exec c s = .next t ∧ (c = .powerLoss → t.power = .off) ∧
      (c = .resetLineAsserted → t.power = .inReset) ∧ Fresh t ∧
      t.memory.images = (stopPhase s).memory.images := by
  rcases h with ⟨straps, rfl⟩ | ⟨hp, rfl | rfl⟩
  · exact ⟨powerOnReset straps s, rfl, nofun, nofun, fresh_resetBlocks straps .on s, rfl⟩
  · have hf := fresh_resetBlocks 0 .off s
    exact ⟨_, congrArg Host.Outcome.next (powerLoss_of_powered hp), fun _ => rfl, nofun,
      ⟨hf.axes, hf.clock, hf.cues, hf.memory, hf.port, hf.work⟩, rfl⟩
  · exact ⟨_, congrArg Host.Outcome.next (resetLineAsserted_of_powered hp), nofun, fun _ => rfl,
      fresh_resetBlocks _ .inReset s, rfl⟩

/-- Settles O4: the segments are those the stopped phase leaves, and all else is the reset values. -/
theorem resetsCutOffARewrite : Obligations.ResetsCutOffARewrite := by
  intro c s h
  obtain ⟨t, hexec, hoff, hin, hf, himages⟩ := exec_reset h
  have himage := TableMemory.image_congr himages
  refine ⟨t, hexec, hoff, hin, fun r he hr => ?_, fun k hk => ?_, ?_⟩
  · rw [himage]
    exact stopPhase_image_stopped he hr
  · rw [himage]
    exact stopPhase_image_kept hk
  · obtain ⟨images, hm⟩ : ∃ images, t.memory = TableMemory.powerOn images := ⟨_, hf.memory⟩
    simp only [State.entry, hm]
    refine ⟨rfl, rfl, rfl, rfl, rfl, rfl, fun id => ?_, hf.work, fun i => congrArg Axis.output (hf.axes i)⟩
    have habsent : (TableMemory.powerOn images).directory[id] = DirEntry.absent := by
      simp [TableMemory.powerOn]
    rw [habsent]
    rfl

/-! ### UNIT_RESET (R78, R150, R174) -/

section
variable {t : TableMemory}

theorem unitReset_of_none (h : t.engine = .idle ∨ t.rewrite = none) :
    t.unitReset.records = t.records ∧ t.unitReset.startUp = t.startUp := by
  unfold TableMemory.unitReset
  split
  · exact ⟨rfl, rfl⟩
  · exact ⟨rfl, rfl⟩
  · rename_i hr he
    exact h.elim (absurd · he) fun hnone => by rw [hnone] at hr; cases hr

theorem unitReset_of_some {r : Rewrite} (he : t.engine ≠ .idle) (hr : t.rewrite = some r) :
    t.unitReset.records = (t.setRecord r.segment .torn).records ∧ t.unitReset.startUp = t.startUp := by
  unfold TableMemory.unitReset
  split
  · contradiction
  · rename_i hnone _
    rw [hnone] at hr
    cases hr
  · rename_i r' hr' _
    cases hr.symm.trans hr'
    obtain ⟨segment, eraseOnly, old, new⟩ := r
    cases old <;> cases new <;> exact ⟨rfl, rfl⟩

theorem unitReset_record_torn {r : Rewrite} (he : t.engine ≠ .idle) (hr : t.rewrite = some r) :
    t.unitReset.record r.segment = .torn := by
  rw [TableMemory.record_congr (unitReset_of_some he hr).1, TableMemory.record_setRecord_same]

theorem unitReset_record_kept {k : Nat}
    (hk : ∀ r, t.engine ≠ .idle → t.rewrite = some r → k ≠ r.segment) :
    t.unitReset.record k = t.record k := by
  by_cases he : t.engine = .idle
  · exact TableMemory.record_congr (unitReset_of_none (.inl he)).1 k
  · cases hr : t.rewrite with
    | none => exact TableMemory.record_congr (unitReset_of_none (.inr hr)).1 k
    | some r =>
      rw [TableMemory.record_congr (unitReset_of_some he hr).1,
        TableMemory.record_setRecord_ne _ (hk r he hr)]

theorem unitReset_startUp (t : TableMemory) : t.unitReset.startUp = t.startUp := by
  by_cases he : t.engine = .idle
  · exact (unitReset_of_none (.inl he)).2
  · cases hr : t.rewrite with
    | none => exact (unitReset_of_none (.inr hr)).2
    | some r => exact (unitReset_of_some he hr).2

end

theorem unitReset_bound (t : TableMemory) (id : TableId) : t.unitReset.directory[id].bound = 0 := by
  simp [TableMemory.unitReset]

/-- Settles O6: an addressed one by the tests of R165, a broadcast one block by block. -/
theorem unitResetTakesEffect : Obligations.UnitResetTakesEffect := by
  refine ⟨fun straps s h => exec_of_takes h (.unitReset straps) rfl fun _ => rfl, ?_⟩
  rintro straps s _ h ⟨⟩
  have hsteady := (stopPhase_steady s).1
  obtain ⟨himages, -, hrewrite, hengine, -⟩ := memory_unitReset (stopPhase s).memory
  have himage : ∀ k, (unitReset straps s).memory.image k = (stopPhase s).memory.image k :=
    TableMemory.image_congr himages
  have hstart : (stopPhase s).memory.unitReset.startUp = .complete :=
    ((unitReset_startUp _).trans (stopPhase_startUp s)).trans h.2.2.1
  refine ⟨unitReset straps s, exec_of_takes h (.unitReset straps) rfl fun _ => rfl, (stopPhase_power s).trans h.1, rfl,
    rfl, rfl, rfl, fun i => ?_, hstart, hengine, hrewrite, rfl, rfl, rfl, fun id => unitReset_bound _ id,
    fun r he hr => ⟨?_, ?_⟩, rfl, fun k hk => ⟨?_, ?_⟩⟩
  · rw [unitReset_axis, stopPhase_axis,
      show (powerOnReset straps s).axis i = Axis.reset from resetBlocks_axis straps .on s i]
    rfl
  · exact unitReset_record_torn (mt hsteady.idle.1 he) (hsteady.rewrite.trans hr)
  · rw [himage]
    exact stopPhase_image_stopped he hr
  · refine (unitReset_record_kept fun r he hr => ?_).trans (TableMemory.record_congr hsteady.records k)
    exact hk r (mt hsteady.idle.2 he) (hsteady.rewrite.symm.trans hr)
  · rw [himage]
    exact stopPhase_image_kept hk

end Sys2Proof.Machine
end

section
/-! The Staging Buffer (spec/04), and the statement about STAGE_HEADER, STAGE_KNOTS and STAGE_CLEAR (O43). -/

namespace Sys2Proof.Machine

/-! ### The header (R64) -/

/-- The four fields of a header lie in their ranges. -/
def HeaderInRange (table sequence count final : Byte) : Prop :=
  table.toNat < 64 ∧ sequence.toNat < 16 ∧ 1 ≤ count.toNat ∧ count.toNat ≤ 63 ∧ final.toNat ≤ 1

section
variable {table sequence count final : Byte}

theorem readHeader_of_inRange (h : HeaderInRange table sequence count final) :
    ∃ header : Header, readHeader table sequence count final = some header ∧
      header.table.val = table.toNat ∧ header.sequence.val = sequence.toNat ∧
      header.count = count.toNat ∧ header.final = decide (final.toNat = 1) := by
  obtain ⟨htable, hsequence, hlow, hhigh, hfinal⟩ := h
  refine ⟨{ table := ⟨table.toNat, htable⟩, sequence := ⟨sequence.toNat, hsequence⟩, count := count.toNat
            final := decide (final.toNat = 1) }, ?_, rfl, rfl, rfl, rfl⟩
  simp [readHeader, readTable, readFlag_eq, readRange, htable, hsequence, hlow, hhigh, hfinal]

theorem readHeader_of_not_inRange (h : ¬HeaderInRange table sequence count final) :
    readHeader table sequence count final = none := by
  by_contra hsome
  obtain ⟨header, hheader⟩ := Option.ne_none_iff_exists'.1 hsome
  simp only [readHeader, readTable, readFlag_eq, readRange, Option.bind_eq_bind,
    Option.bind_eq_some_iff, Option.dite_none_right_eq_some, Option.ite_none_right_eq_some] at hheader
  obtain ⟨-, ⟨htable, -⟩, -, ⟨hfinal, -⟩, -, ⟨⟨hlow, hhigh⟩, -⟩, hsequence, -⟩ := hheader
  exact h ⟨htable, hsequence, hlow, hhigh, hfinal⟩

end

/-! ### The knots (R65) -/

/-- Slots read back after knots are written from `first` upward. -/
theorem sparseGet_putKnots (knots : List KnotField) (first k : Nat) (slots : Sparse Knot) :
    sparseGet k (putKnots first knots slots) =
      if first ≤ k ∧ k < first + knots.length then (knots[k - first]?).map knotOf
      else sparseGet k slots := by
  induction knots generalizing first slots with
  | nil => rw [putKnots, if_neg (by simp)]
  | cons x rest ih =>
    rw [putKnots, ih]
    rcases Nat.lt_trichotomy k first with hk | rfl | hk
    · rw [if_neg (by omega), if_neg (by omega), sparseGet_put_ne (by omega)]
    · rw [if_neg (by omega), if_pos (by simp), sparseGet_put_same]
      simp
    · obtain ⟨n, rfl⟩ : ∃ n, k = first + 1 + n := ⟨k - (first + 1), by omega⟩
      have hplace : (x :: rest)[first + 1 + n - first]? = rest[first + 1 + n - (first + 1)]? := by
        rw [show first + 1 + n - first = n + 1 by omega, Nat.add_sub_cancel_left,
          List.getElem?_cons_succ]
      rw [hplace, sparseGet_put_ne (by omega)]
      simp only [List.length_cons]
      congr 1
      simp only [eq_iff_iff]
      omega

/-! ### The three requests -/

theorem TableMemory.owned_iff (t : TableMemory) : t.owned = true ↔ t.engine ≠ .idle := by
  simp [TableMemory.owned]

/-- Settles O43: the engine first, then the ranges, and the slots are read back after the write. -/
theorem stagingRequestsFillTheBuffer : Obligations.StagingRequestsFillTheBuffer := by
  intro o s table sequence count final first knots ht hk inRange hrange
  have hheader : exec (.stageHeader o table sequence count final) s =
      .next (answered o 0x28 (doStageHeader table sequence count final s)) :=
    exec_of_takes ht (.stageHeader table sequence count final) rfl fun _ => rfl
  have hknots : exec (.stageKnots o first knots) s =
      .next (answered o 0x29 (doStageKnots first knots s)) :=
    exec_of_takes ht (.stageKnots first knots) hk fun _ => rfl
  have hclear : exec (.stageClear o) s = .next (answered o 0x2A (doStageClear s)) :=
    exec_of_takes ht .stageClear rfl fun _ => rfl
  rw [hheader, hknots, hclear]
  refine ⟨fun he => ?_, fun he => ?_⟩
  · have howned := (TableMemory.owned_iff _).2 he
    rw [doStageHeader, if_pos howned, doStageKnots, if_pos howned, doStageClear, if_pos howned]
    exact ⟨rfl, rfl, rfl⟩
  · have howned : ¬s.memory.owned = true := fun h => (TableMemory.owned_iff _).1 h he
    rw [doStageHeader, if_neg howned, doStageKnots, if_neg howned, doStageClear, if_neg howned]
    refine ⟨fun hout => ?_, fun hin => ?_, fun hout => by rw [if_pos hout], fun hfirst hroom => ?_, rfl⟩
    · rw [readHeader_of_not_inRange (mt hrange.2 hout)]
    · obtain ⟨header, hread, hfields⟩ := readHeader_of_inRange (hrange.1 hin)
      rw [hread]
      exact ⟨header, rfl, hfields⟩
    · rw [if_neg (by omega)]
      exact ⟨_, rfl, fun _ k => sparseGet_putKnots knots first.toNat k s.memory.staging.slots⟩

end Sys2Proof.Machine
end

section
/-! The start-up scan and the entry it builds for an id (spec/04), and the statement about them (O5). -/

namespace Sys2Proof.Machine

/-! ### The class of a segment (R59) -/

section
variable {x : SegmentImage}

theorem scanImage_of_open (h : x.openMark = true) : scanImage x = .torn := if_pos h

theorem scanImage_of_marked {h : Header} {first last : Knot} (hopen : x.openMark = false)
    (hmarker : x.marker = true) (hh : x.header = some h) (hfirst : sparseGet 0 x.slots = some first)
    (hlast : sparseGet (h.count - 1) x.slots = some last) : scanImage x = .valid h first last := by
  simp [scanImage, hopen, hmarker, hh, hfirst, hlast]

theorem scanImage_of_unmarked (hopen : x.openMark = false) (hmarker : x.marker = false) :
    scanImage x = if x.header = none ∧ x.slots = [] then .blank else .torn := by
  simp only [scanImage, hopen, hmarker, Bool.false_eq_true, if_false]

end

/-- The record of each segment is the class of its contents; an unlisted segment is erased, and BLANK. -/
theorem sparseGet_scanRecords {top low : Nat} {m : Sparse SegmentImage} (h : keysRise top low m = true)
    (k : Nat) :
    (sparseGet k (scanRecords m)).getD .blank =
      scanImage ((sparseGet k m).getD SegmentImage.erased) := by
  induction m generalizing low with
  | nil => rfl
  | cons e rest ih =>
    obtain ⟨j, x⟩ := e
    simp only [keysRise, Bool.and_eq_true] at h
    have hrest := ih h.2
    unfold scanRecords at hrest ⊢
    by_cases hj : j = k
    · subst hj
      rw [sparseGet_below (Nat.lt_succ_self j) h.2] at hrest
      by_cases hx : scanImage x = .blank
      · rw [List.filterMap_cons_none (by simp [hx]), hrest]
        simp only [sparseGet, if_true, Option.getD_some, hx]
        rfl
      · rw [List.filterMap_cons_some (b := (j, scanImage x)) (by simp [hx])]
        simp [sparseGet]
    · by_cases hx : scanImage x = .blank
      · rw [List.filterMap_cons_none (by simp [hx]), hrest]
        simp [sparseGet, hj]
      · rw [List.filterMap_cons_some (b := (j, scanImage x)) (by simp [hx])]
        simpa [sparseGet, hj] using hrest

theorem record_scan {t : TableMemory} (h : imagesWf t.images = true) (k : Nat) :
    t.scan.record k = scanImage (t.image k) := by
  simp only [imagesWf, Bool.and_eq_true] at h
  exact sparseGet_scanRecords h.1 k

/-! ### The claims on an id (R61) -/

/-- An entry that is read is listed. -/
theorem mem_of_sparseGet {α : Type} {k : Nat} {x : α} {m : Sparse α} (h : sparseGet k m = some x) :
    (k, x) ∈ m := by
  induction m with
  | nil => cases h
  | cons e rest ih =>
    obtain ⟨j, y⟩ := e
    by_cases hj : j = k
    · simp only [sparseGet, hj, if_true, Option.some.injEq] at h
      simp [hj, h]
    · simp only [sparseGet, hj, if_false] at h
      exact List.mem_cons_of_mem _ (ih h)

/-- A listed key lies in the range of the keys. -/
theorem sparseGet_range {α : Type} {top low k : Nat} {x : α} {m : Sparse α}
    (hm : keysRise top low m = true) (h : sparseGet k m = some x) : low ≤ k ∧ k < top := by
  induction m generalizing low with
  | nil => cases h
  | cons e rest ih =>
    obtain ⟨j, y⟩ := e
    simp only [keysRise, Bool.and_eq_true, decide_eq_true_eq] at hm
    by_cases hj : j = k
    · exact hj ▸ hm.1
    · simp only [sparseGet, hj, if_false] at h
      have := ih hm.2 h
      omega

section
variable {id : TableId} {m : Sparse SegmentRecord}

theorem mem_claimsOf_iff {top low : Nat} (hm : keysRise top low m = true) (c : Claim) :
    c ∈ claimsOf id m ↔ Carries m id c.segment c.header c.first c.last := by
  rw [claimsOf_eq, List.mem_filterMap]
  constructor
  · rintro ⟨⟨k, x⟩, hmem, hc⟩
    obtain ⟨rfl, rfl, hid⟩ := claimIn_eq_some hc
    exact ⟨sparseGet_of_mem hm hmem, hid⟩
  · rintro ⟨hget, hid⟩
    exact ⟨(c.segment, .valid c.header c.first c.last), mem_of_sparseGet hget, by simp [claimIn, hid]⟩

/-- The claims stand in the order of their segments. -/
theorem claimsOf_rise {top low : Nat} (hm : keysRise top low m = true) :
    (claimsOf id m).Pairwise (fun c d => c.segment < d.segment) := by
  induction m generalizing low with
  | nil => exact .nil
  | cons e rest ih =>
    simp only [keysRise, Bool.and_eq_true] at hm
    rw [claimsOf_eq]
    cases hc : claimIn id e with
    | none => rw [List.filterMap_cons_none hc]; exact ih hm.2
    | some c =>
      rw [List.filterMap_cons_some hc, List.pairwise_cons]
      refine ⟨fun d hd => ?_, ih hm.2⟩
      have hlow := (sparseGet_range hm.2 ((mem_claimsOf_iff hm.2 d).1 hd).1).1
      have hsegment := (claimIn_eq_some hc).1
      omega

theorem claimsOf_nodup {top low : Nat} (hm : keysRise top low m = true) : (claimsOf id m).Nodup :=
  (claimsOf_rise hm).imp fun h => by rintro rfl; exact Nat.lt_irrefl _ h

/-- The number of claims is that of the segments that carry the id. -/
theorem claimsOf_length (hm : keysRise 256 0 m = true) {p : Nat → Bool}
    (hp : ∀ k, p k = true ↔ ∃ h a b, Carries m id k h a b) :
    (claimsOf id m).length = ((List.range 256).filter p).length := by
  have hnodup : ((claimsOf id m).map Claim.segment).Nodup :=
    List.pairwise_map.2 ((claimsOf_rise hm).imp Nat.ne_of_lt)
  rw [← List.length_map Claim.segment]
  refine ((List.perm_ext_iff_of_nodup hnodup (List.nodup_range.filter p)).2 fun k => ?_).length_eq
  rw [List.mem_map, List.mem_filter, List.mem_range, hp]
  constructor
  · rintro ⟨c, hc, rfl⟩
    have hcarries := (mem_claimsOf_iff hm c).1 hc
    exact ⟨(sparseGet_range hm hcarries.1).2, _, _, _, hcarries⟩
  · rintro ⟨-, h, a, b, hcarries⟩
    exact ⟨⟨k, h, a, b⟩, (mem_claimsOf_iff hm ⟨k, h, a, b⟩).2 hcarries, rfl⟩

end

/-! ### The sequences of the claims -/

/-- No two claims carry the same sequence. -/
def SequencesDiffer (l : List Claim) : Prop :=
  ∀ c ∈ l, ∀ d ∈ l, c.header.sequence = d.header.sequence → c = d

theorem two_le_length_iff {α : Type} [DecidableEq α] {l : List α} (h : l.Nodup) :
    2 ≤ l.length ↔ ∃ a ∈ l, ∃ b ∈ l, a ≠ b := by
  rw [← List.toFinset_card_of_nodup h]
  exact Finset.one_lt_card.trans (by simp only [List.mem_toFinset])

section
variable {l : List Claim}

theorem sequencesClash_iff (h : l.Nodup) : sequencesClash l = true ↔ ¬SequencesDiffer l := by
  simp only [sequencesClash, List.any_eq_true, List.mem_range, decide_eq_true_eq,
    two_le_length_iff (h.filter _), List.mem_filter, SequencesDiffer, not_forall]
  constructor
  · rintro ⟨q, -, c, ⟨hc, hcq⟩, d, ⟨hd, hdq⟩, hne⟩
    exact ⟨c, hc, d, hd, Fin.ext (hcq.trans hdq.symm), hne⟩
  · rintro ⟨c, hc, d, hd, hsequence, hne⟩
    exact ⟨_, c.header.sequence.isLt, c, ⟨hc, rfl⟩, d, ⟨hd, congrArg Fin.val hsequence.symm⟩, hne⟩

theorem finalSequence_of_none (h : ∀ c ∈ l, c.header.final = false) : finalSequence l = none := by
  simp only [finalSequence, List.find?_range_eq_none, Bool.not_eq_true', List.any_eq_false,
    Bool.and_eq_true, not_and, Bool.not_eq_true]
  exact fun _ _ c hc _ => h c hc

theorem finalSequence_of_some {c : Claim} (hc : c ∈ l) (hfinal : c.header.final = true)
    (hlow : ∀ d ∈ l, d.header.final = true → c.header.sequence.val ≤ d.header.sequence.val) :
    finalSequence l = some c.header.sequence.val := by
  rw [finalSequence, List.find?_range_eq_some]
  refine ⟨List.any_eq_true.2 ⟨c, hc, by simp [hfinal]⟩, List.mem_range.2 c.header.sequence.isLt,
    fun q hq => ?_⟩
  simp only [Bool.not_eq_true', List.any_eq_false, Bool.and_eq_true, decide_eq_true_eq, not_and]
  rintro d hd rfl hd'
  exact absurd hq (Nat.not_lt.2 (hlow d hd hd'))

theorem claimAt_isSome (l : List Claim) (q : Nat) :
    (claimAt l q).isSome = true ↔ ∃ c ∈ l, c.header.sequence.val = q := by
  simp [claimAt]

/-- Segment `k` claims sequence `q`, with this header and these end knots. -/
def Stands (l : List Claim) (q k : Nat) (h : Header) (a b : Knot) : Prop :=
  (⟨k, h, a, b⟩ : Claim) ∈ l ∧ h.sequence.val = q

theorem sequencesFill_iff (l : List Claim) (f : Nat) :
    sequencesFill l f = true ↔
      (∀ q, q ≤ f → ∃ k h a b, Stands l q k h a b) ∧ ∀ q k h a b, Stands l q k h a b → q ≤ f := by
  simp only [sequencesFill, Bool.and_eq_true, List.all_eq_true, List.mem_range, Nat.lt_succ_iff,
    claimAt_isSome, decide_eq_true_eq]
  refine and_congr (forall₂_congr fun q _ => ?_) ⟨?_, fun h c hc => h _ _ _ _ _ ⟨hc, rfl⟩⟩
  · exact ⟨fun ⟨c, hc⟩ => ⟨c.segment, c.header, c.first, c.last, hc⟩, fun ⟨_, _, _, _, hc⟩ => ⟨_, hc⟩⟩
  · rintro h q k x a b ⟨hc, rfl⟩
    exact h _ hc

/-- The claims of sequences 0 to `f`, in that order. -/
def listedClaims (l : List Claim) (f : Nat) : List Claim := (List.range (f + 1)).filterMap (claimAt l)

/-- Where each sequence has its claim, that claim stands in its place. -/
theorem listedClaims_eq {f : Nat} {g : Nat → Claim} (hl : SequencesDiffer l)
    (hg : ∀ q, q ≤ f → g q ∈ l ∧ (g q).header.sequence.val = q) :
    listedClaims l f = (List.range (f + 1)).map g := by
  have hat : ∀ q ∈ List.range (f + 1), claimAt l q = (some ∘ g) q := fun q hq => by
    obtain ⟨hmem, hsequence⟩ := hg q (by simpa [Nat.lt_succ_iff] using hq)
    obtain ⟨c, hc⟩ := Option.isSome_iff_exists.1 ((claimAt_isSome l q).2 ⟨_, hmem, hsequence⟩)
    have hcq : c.header.sequence.val = q := by simpa using List.find?_some hc
    rw [hc, Function.comp_apply,
      hl c (List.mem_of_find?_eq_some hc) _ hmem (Fin.ext (hcq.trans hsequence.symm))]
  rw [listedClaims, List.filterMap_congr hat, List.filterMap_eq_map]

/-- Claims of which none is missing and no two clash stand in the list by their sequences. -/
theorem exists_placed {f : Nat} (hl : SequencesDiffer l) (hfill : sequencesFill l f = true) :
    ∃ g : Nat → Claim, listedClaims l f = (List.range (f + 1)).map g ∧
      (∀ q, q ≤ f → Stands l q (g q).segment (g q).header (g q).first (g q).last) ∧
      ∀ q k h a b, Stands l q k h a b → q ≤ f ∧ g q = ⟨k, h, a, b⟩ := by
  obtain ⟨hall, htop⟩ := (sequencesFill_iff l f).1 hfill
  choose! k h a b hg using hall
  refine ⟨fun q => ⟨k q, h q, a q, b q⟩, listedClaims_eq hl hg, hg, fun q k' h' a' b' hq => ?_⟩
  obtain ⟨hmem, hsequence⟩ := hg q (htop _ _ _ _ _ hq)
  exact ⟨htop _ _ _ _ _ hq, hl _ hmem _ hq.1 (Fin.ext (hsequence.trans hq.2.symm))⟩

/-- The knots rise from each claim to the next where they do so from sequence to sequence. -/
theorem placed_rise_iff {f : Nat} {g : Nat → Claim}
    (hstands : ∀ q, q ≤ f → Stands l q (g q).segment (g q).header (g q).first (g q).last)
    (hplaced : ∀ q k h a b, Stands l q k h a b → q ≤ f ∧ g q = ⟨k, h, a, b⟩) :
    (∀ q, q < f → (g q).last.time < (g (q + 1)).first.time) ↔
      ∀ q k h a b j x c d, Stands l q k h a b → Stands l (q + 1) j x c d → b.time < c.time := by
  constructor
  · intro hr q k h a b j x c d hq hq'
    obtain ⟨-, hp⟩ := hplaced _ _ _ _ _ hq
    obtain ⟨hle, hp'⟩ := hplaced _ _ _ _ _ hq'
    have hlt := hr q hle
    rwa [hp, hp'] at hlt
  · exact fun hr q hq => hr _ _ _ _ _ _ _ _ _ (hstands q hq.le) (hstands (q + 1) hq)

theorem claimsRise_iff (l : List Claim) :
    claimsRise l = true ↔ l.IsChain (fun c d => c.last.time < d.first.time) := by
  induction l with
  | nil => simp [claimsRise]
  | cons c rest ih =>
    cases rest with
    | nil => simp [claimsRise]
    | cons d rest => simp [claimsRise, ih]

theorem claimsRise_map_range (g : Nat → Claim) (f : Nat) :
    claimsRise ((List.range (f + 1)).map g) = true ↔
      ∀ q, q < f → (g q).last.time < (g (q + 1)).first.time := by
  rw [claimsRise_iff, List.isChain_map]
  exact List.isChain_range_succ _ f

theorem endsOf_map_range (g : Nat → Claim) (f total : Nat) :
    endsOf ((List.range (f + 1)).map g) total =
      some ({ index := 0, knot := (g 0).first, segment := (g 0).segment },
        { index := total - 1, knot := (g f).last, segment := (g f).segment }) := by
  simp [endsOf, List.head?_range, List.getLast?_range]

end

/-! ### The entry, case by case (R61) -/

/-- An entry that lists nothing. -/
def DirEntry.bare (state : DirState) (claims : Nat) (bound : AxisSet) : DirEntry :=
  { state, claims, segments := [], total := 0, ends := none, bound }

/-- An entry that lists claims. -/
def DirEntry.listing (listed : List Claim) (claims : Nat) (bound : AxisSet) : DirEntry :=
  let segments := listed.map (fun c => (c.segment, c.header.count))
  let total := totalKnots segments
  { state := if claimsRise listed then .complete else .disordered, claims, segments, total
    ends := if claimsRise listed then endsOf listed total else none, bound }

section
variable (g : Nat → Claim) (f claims : Nat) (b : AxisSet)

theorem listing_segments {e : DirEntry} (he : e = .listing ((List.range (f + 1)).map g) claims b) :
    e.segments.length = f + 1 ∧
      ∀ q, q ≤ f → e.segments[q]? = some ((g q).segment, (g q).header.count) := by
  subst he
  refine ⟨by simp [DirEntry.listing], fun q hq => ?_⟩
  simp [DirEntry.listing, List.getElem?_range (Nat.lt_succ_of_le hq)]

theorem listing_of_not_rise {e : DirEntry} (he : e = .listing ((List.range (f + 1)).map g) claims b)
    (h : ¬∀ q, q < f → (g q).last.time < (g (q + 1)).first.time) :
    e.state = .disordered ∧ e.ends = none := by
  rw [← claimsRise_map_range] at h
  simp only [he, DirEntry.listing, if_neg h, and_self]

theorem listing_of_rise {e : DirEntry} (he : e = .listing ((List.range (f + 1)).map g) claims b)
    (h : ∀ q, q < f → (g q).last.time < (g (q + 1)).first.time) :
    e.state = .complete ∧
      e.ends =
        some ({ index := 0, knot := (g 0).first, segment := (g 0).segment },
          { index := e.total - 1, knot := (g f).last, segment := (g f).segment }) := by
  rw [← claimsRise_map_range] at h
  simp only [he, DirEntry.listing, if_pos h, endsOf_map_range, and_self]

end

section
variable {id : TableId} {m : Sparse SegmentRecord} {b : AxisSet}

theorem buildEntry_of_empty (h : claimsOf id m = []) :
    buildEntry id m b = .bare .absent (claimsOf id m).length b := if_pos h

theorem buildEntry_of_clash (h : sequencesClash (claimsOf id m) = true) :
    buildEntry id m b = .bare .conflicted (claimsOf id m).length b := by
  have hne : claimsOf id m ≠ [] := fun he => by rw [he] at h; cases h
  exact (if_neg hne).trans (if_pos h)

theorem buildEntry_of_noFinal (hne : claimsOf id m ≠ []) (hc : sequencesClash (claimsOf id m) = false)
    (h : finalSequence (claimsOf id m) = none) :
    buildEntry id m b = .bare .part (claimsOf id m).length b := by
  simp only [buildEntry, hne, if_false, hc, h, DirEntry.bare, Bool.false_eq_true]

variable {f : Nat}

theorem buildEntry_of_gap (hc : sequencesClash (claimsOf id m) = false)
    (h : finalSequence (claimsOf id m) = some f) (hfill : sequencesFill (claimsOf id m) f = false) :
    buildEntry id m b = .bare .part (claimsOf id m).length b := by
  have hne : claimsOf id m ≠ [] := fun he => by rw [he] at h; cases h
  simp only [buildEntry, hne, if_false, hc, h, hfill, DirEntry.bare, Bool.false_eq_true]

theorem buildEntry_of_fill (hc : sequencesClash (claimsOf id m) = false)
    (h : finalSequence (claimsOf id m) = some f) (hfill : sequencesFill (claimsOf id m) f = true) :
    buildEntry id m b = .listing (listedClaims (claimsOf id m) f) (claimsOf id m).length b := by
  have hne : claimsOf id m ≠ [] := fun he => by rw [he] at h; cases h
  simp only [buildEntry, hne, if_false, hc, h, hfill, if_true, DirEntry.listing, listedClaims,
    Bool.false_eq_true]
  split <;> rename_i hrise <;> simp [hrise]

/-- An entry lists nothing, or the claims of sequences 0 to the final one. -/
theorem buildEntry_cases (id : TableId) (m : Sparse SegmentRecord) (b : AxisSet) :
    (∃ state, buildEntry id m b = .bare state (claimsOf id m).length b) ∨
      ∃ f, buildEntry id m b = .listing (listedClaims (claimsOf id m) f) (claimsOf id m).length b := by
  by_cases hne : claimsOf id m = []
  · exact .inl ⟨_, buildEntry_of_empty hne⟩
  cases hc : sequencesClash (claimsOf id m) with
  | true => exact .inl ⟨_, buildEntry_of_clash hc⟩
  | false =>
    cases hf : finalSequence (claimsOf id m) with
    | none => exact .inl ⟨_, buildEntry_of_noFinal hne hc hf⟩
    | some f =>
      cases hfill : sequencesFill (claimsOf id m) f with
      | false => exact .inl ⟨_, buildEntry_of_gap hc hf hfill⟩
      | true => exact .inr ⟨f, buildEntry_of_fill hc hf hfill⟩

theorem buildEntry_claims (id : TableId) (m : Sparse SegmentRecord) (b : AxisSet) :
    (buildEntry id m b).claims = (claimsOf id m).length := by
  rcases buildEntry_cases id m b with ⟨state, h⟩ | ⟨f, h⟩ <;> rw [h] <;> rfl

/-- An ABSENT, CONFLICTED or PART entry lists nothing. -/
theorem buildEntry_bare
    (h : (buildEntry id m b).state = .absent ∨ (buildEntry id m b).state = .conflicted ∨
      (buildEntry id m b).state = .part) :
    (buildEntry id m b).segments = [] ∧ (buildEntry id m b).total = 0 ∧
      (buildEntry id m b).ends = none := by
  rcases buildEntry_cases id m b with ⟨state, he⟩ | ⟨f, he⟩ <;> rw [he] at h ⊢
  · exact ⟨rfl, rfl, rfl⟩
  · simp only [DirEntry.listing] at h
    split at h <;> simp at h

end

/-! ### The cases of R61 as the records show them -/

section
variable {id : TableId} {m : Sparse SegmentRecord} (hm : keysRise 256 0 m = true)
include hm

theorem claimsOf_eq_nil_iff : claimsOf id m = [] ↔ ∀ k h a b, ¬Carries m id k h a b := by
  rw [List.eq_nil_iff_forall_not_mem]
  exact ⟨fun hnone k h a b => mt (mem_claimsOf_iff hm ⟨k, h, a, b⟩).2 (hnone _),
    fun hnone c => mt (mem_claimsOf_iff hm c).1 (hnone _ _ _ _)⟩

/-- Two claims of one segment are one. -/
theorem claim_eq_of_segment {c d : Claim} (hc : c ∈ claimsOf id m) (hd : d ∈ claimsOf id m)
    (h : c.segment = d.segment) : c = d := by
  have hcd := ((mem_claimsOf_iff hm c).1 hc).1.symm.trans (h ▸ ((mem_claimsOf_iff hm d).1 hd).1)
  cases c
  cases d
  simp_all

theorem sequencesClash_claimsOf_iff :
    sequencesClash (claimsOf id m) = true ↔
      ∃ j k h g a b c d, j ≠ k ∧ Carries m id j h a b ∧ Carries m id k g c d ∧
        h.sequence = g.sequence := by
  rw [sequencesClash_iff (claimsOf_nodup hm)]
  simp only [SequencesDiffer, not_forall]
  constructor
  · rintro ⟨c, hc, d, hd, hsequence, hne⟩
    exact ⟨c.segment, d.segment, _, _, _, _, _, _, mt (claim_eq_of_segment hm hc hd) hne,
      (mem_claimsOf_iff hm c).1 hc, (mem_claimsOf_iff hm d).1 hd, hsequence⟩
  · rintro ⟨j, k, h, g, a, b, c, d, hne, hj, hk, hsequence⟩
    exact ⟨⟨j, h, a, b⟩, (mem_claimsOf_iff hm _).2 hj, ⟨k, g, c, d⟩, (mem_claimsOf_iff hm _).2 hk,
      hsequence, fun he => hne (congrArg Claim.segment he)⟩

end

/-! ### The statement -/

/-- Start-up Scan Completion of a scanning unit (R59, R149). -/
theorem startUpScanCompletion_of_scanning {s : State} (hp : s.power = .on)
    (hscan : s.memory.startUp = .scanning) :
    startUpScanCompletion s =
      { s with memory := s.memory.scan }.mapAxes
        (fun a => { a with output := { a.output with mode := .parked } }) := if_pos ⟨hp, hscan⟩

/-- Settles O5: the segments by their classes, and the entry by the cases of R61, read in the claims on its
id. -/
theorem scanClassesEverySegment : Obligations.ScanClassesEverySegment := by
  constructor
  · intro s hp hscan hwf
    refine ⟨_, congrArg Host.Outcome.next (startUpScanCompletion_of_scanning hp hscan), rfl, rfl,
      fun k => ?_, fun id => scan_entry s.memory id, fun i => State.axis_mapAxes _ i _, rfl, rfl, rfl, rfl,
      rfl, rfl, rfl, rfl, rfl, rfl, rfl⟩
    simp only [State.mapAxes_memory, record_scan hwf]
    refine ⟨scanImage_of_open, fun h first last => scanImage_of_marked, fun hopen hmarker hh hslots => ?_,
      fun hopen hmarker hpart => ?_⟩
    · rw [scanImage_of_unmarked hopen hmarker, if_pos ⟨hh, hslots⟩]
    · rw [scanImage_of_unmarked hopen hmarker, if_neg (by tauto)]
  · rintro id m bound _ hwf rfl
    have hm : keysRise 256 0 m = true := by
      simp only [recordsWf, Bool.and_eq_true] at hwf
      exact hwf.1
    refine ⟨buildEntry_bound id m bound,
      (buildEntry_claims id m bound).trans (claimsOf_length hm fun k => ?_), buildEntry_bare, ?_⟩
    · split
      · rename_i h first last hk
        simp [Carries, hk]
      · rename_i hk
        simp only [Bool.false_eq_true, false_iff, not_exists]
        exact fun h a b hcarries => hk h a b hcarries.1
    intro none_ clash at_ hnone hclash hat
    obtain rfl : at_ = Stands (claimsOf id m) := by
      funext q k h a b
      exact propext ((hat q k h a b).trans (and_congr_left' (mem_claimsOf_iff hm ⟨k, h, a, b⟩).symm))
    rw [← claimsOf_eq_nil_iff hm] at hnone
    rw [← sequencesClash_claimsOf_iff hm] at hclash
    have hfree : ¬clash → sequencesClash (claimsOf id m) = false := fun h =>
      Bool.eq_false_iff.2 (mt hclash.2 h)
    refine ⟨fun h => ?_, fun _ h => ?_, fun hne h hfinal => ?_, fun f h hf hlow => ?_⟩
    · rw [buildEntry_of_empty (hnone.1 h)]
      rfl
    · rw [buildEntry_of_clash (hclash.1 h)]
      rfl
    · rw [buildEntry_of_noFinal (mt hnone.2 hne) (hfree h)
        (finalSequence_of_none fun c hc => hfinal _ _ _ _ ((mem_claimsOf_iff hm c).1 hc))]
      rfl
    · obtain ⟨k, g, a, b, ⟨hmem, rfl⟩, hfinal⟩ := hf
      have hfs := finalSequence_of_some hmem hfinal fun d hd hd' =>
        hlow _ _ _ _ ((mem_claimsOf_iff hm d).1 hd) hd'
      refine ⟨fun hgap => ?_, fun hall htop => ?_⟩
      · rw [buildEntry_of_gap (hfree h) hfs (Bool.eq_false_iff.2 fun hfill => ?_)]
        · rfl
        · obtain ⟨hall, htop⟩ := (sequencesFill_iff _ _).1 hfill
          rcases hgap with ⟨q, hq, hnone⟩ | ⟨q, j, x, c, d, hq, hj⟩
          · obtain ⟨j, x, c, d, hj⟩ := hall q hq
            exact hnone _ _ _ _ hj
          · exact Nat.not_lt.2 (htop _ _ _ _ _ hj) hq
      · have hfill := (sequencesFill_iff _ _).2 ⟨hall, htop⟩
        have hdiffer : SequencesDiffer (claimsOf id m) :=
          not_not.1 (mt (sequencesClash_iff (claimsOf_nodup hm)).2 (mt hclash.2 h))
        obtain ⟨place, hlisted, hstands, hplaced⟩ := exists_placed hdiffer hfill
        have hentry := buildEntry_of_fill (b := bound) (hfree h) hfs hfill
        rw [hlisted] at hentry
        obtain ⟨hlength, hsegments⟩ := listing_segments _ _ _ _ hentry
        refine ⟨hlength, fun q j x c d hq => ?_, by rw [hentry]; rfl, fun rises hrises => ?_⟩
        · obtain ⟨hle, hp⟩ := hplaced _ _ _ _ _ hq
          rw [hsegments q hle, hp]
        · rw [← placed_rise_iff hstands hplaced] at hrises
          refine ⟨fun hr => listing_of_not_rise _ _ _ _ hentry (mt hrises.2 hr), fun hr => ?_⟩
          obtain ⟨hstate, hends⟩ := listing_of_rise _ _ _ _ hentry (hrises.1 hr)
          refine ⟨hstate, fun i w a' b' j x c d hi hj => ?_⟩
          rw [hends, (hplaced _ _ _ _ _ hi).2, (hplaced _ _ _ _ _ hj).2]

end Sys2Proof.Machine
end

section
/-! The codes and the fields of the queries' replies (spec/12): each as the field encoding says it, and its
size. -/

namespace Sys2Proof.Machine

/-! ### Codes, by their places in spec/12's lists -/

theorem flagCode_eq (x : Bool) : flagCode x = codeIn [false, true] x := by cases x <;> rfl

theorem levelCode_eq (x : Level) : levelCode x = codeIn [.low, .high] x := by cases x <;> rfl

theorem acceptedCode_eq (x : Option Level) : acceptedCode x = codeIn [none, some .low, some .high] x := by
  rcases x with _ | _ | _ <;> rfl

theorem Sense.code_eq (x : Sense) : x.code = codeIn [.positive, .negative] x := by cases x <;> rfl

theorem ClockState.code_eq (x : ClockState) : x.code = codeIn [.stopped, .running] x := by
  cases x <;> rfl

theorem StartUp.code_eq (x : StartUp) : x.code = codeIn [.scanning, .complete] x := by cases x <;> rfl

theorem SuspendPolicy.code_eq (x : SuspendPolicy) : x.code = codeIn [.serve, .defer] x := by
  cases x <;> rfl

theorem AxisKind.code_eq (x : AxisKind) : x.code = codeIn [.wrapping, .bounded] x := by cases x <;> rfl

theorem Lane.code_eq (x : Lane) : x.code = codeIn [.sky, .showing] x := by cases x <;> rfl

theorem HoldResponse.code_eq (x : HoldResponse) : x.code = codeIn [.follow, .freeze] x := by
  cases x <;> rfl

theorem ParkMode.code_eq (x : ParkMode) : x.code = codeIn [.holdTorque, .release, .brake] x := by
  cases x <;> rfl

theorem EncoderMode.code_eq (x : EncoderMode) : x.code = codeIn [.none, .x1, .x2, .x4] x := by
  cases x <;> rfl

theorem HomeMode.code_eq (x : HomeMode) : x.code = codeIn [.none, .switch, .switchIndex] x := by
  cases x <;> rfl

theorem AxisState.code_eq (x : AxisState) :
    x.code = codeIn [.off, .ready, .homing, .tracking, .frozen, .limited, .faulted] x := by
  cases x <;> rfl

theorem FaultCause.code_eq (x : FaultCause) :
    x.code = codeIn [.none, .follow, .homeFail, .drive, .halt] x := by
  cases x <;> rfl

theorem FetchState.code_eq (x : FetchState) :
    x.code = codeIn [.idle, .waiting, .granted, .discarding] x := by
  cases x <;> rfl

theorem HomingPhase.code_eq (x : HomingPhase) :
    x.code = codeIn [.none, .backOff, .seekSwitch, .seekIndex, .stopping] x := by
  cases x <;> rfl

theorem HomingEnd.code_eq (x : HomingEnd) : x.code = codeIn [.completed, .failed, .ended] x + 1 := by
  cases x <;> rfl

theorem OutputMode.code_eq (x : OutputMode) : x.code = codeIn [.active, .parked, .startUp] x := by
  cases x <;> rfl

theorem DirState.code_eq (x : DirState) :
    x.code = codeIn [.absent, .conflicted, .part, .disordered, .complete] x := by
  cases x <;> rfl

theorem EngineState.code_eq (x : EngineState) :
    x.code =
      codeIn [.idle, .erasing, .eraseSuspended, .programming, .programSuspended, .aborting] x := by
  cases x <;> rfl

theorem RewriteOutcome.code_eq (x : RewriteOutcome) :
    x.code = codeIn [.verified, .failed, .aborted, .erased] x + 1 := by
  cases x <;> rfl

theorem flagsField_eq (flags : List Bool) : flagsField flags = BitVec.ofNat 8 (bitsByte flags) := by
  rw [flagsField, flagByte_eq]

/-! ### The sizes of the fields -/

@[simp] theorem bytes16_length (x : BitVec 16) : (bytes16 x).length = 2 := rfl
@[simp] theorem field16_length (n : Nat) : (field16 n).length = 2 := rfl
@[simp] theorem field32_length (n : Nat) : (field32 n).length = 4 := rfl
@[simp] theorem signed16_length (x : Int) : (signed16 x).length = 2 := rfl
@[simp] theorem signed64_length (x : Int) : (signed64 x).length = 8 := rfl
@[simp] theorem zeros_length (n : Nat) : (zeros n).length = n := List.length_replicate
@[simp] theorem optionalCode_length (x : Option Byte) : (optionalCode x).length = 1 := rfl
@[simp] theorem attentionField_length (x : Attention) : (attentionField x).length = 7 := rfl
@[simp] theorem settingsField_length (g : UnitSettings) : (settingsField g).length = 4 := rfl
@[simp] theorem knotField_length (k : Knot) : (knotField k).length = 16 := rfl

@[simp] theorem inputsField_length {α : Type} (f : α → Byte) (x : PerInput α) :
    (inputsField f x).length = 4 := rfl

@[simp] theorem optional64_length (x : Option Int) : (optional64 x).length = 9 := by cases x <;> rfl

@[simp] theorem endField_length (x : Option KnotRef) : (endField x).length = 17 := by cases x <;> rfl

@[simp] theorem pairField_length (x : Option KnotRef) : (pairField x).length = 19 := by cases x <;> rfl

@[simp] theorem headerField_length (x : Option Header) : (headerField x).length = 4 := by cases x <;> rfl

@[simp] theorem rampField_length (x : Option Ramp) : (rampField x).length = 21 := by cases x <;> rfl

@[simp] theorem headField_length (l : List CueRecord) : (headField l).length = 9 := by cases l <;> rfl

@[simp] theorem failureField_length (x : Option CueFailure) : (failureField x).length = 4 := by
  cases x <;> rfl

@[simp] theorem rewriteField_length (x : Option Rewrite) : (rewriteField x).length = 6 := by
  cases x <;> rfl

@[simp] theorem outcomeField_length (x : Option (RewriteOutcome × Nat)) :
    (outcomeField x).length = 3 := by
  cases x <;> rfl

@[simp] theorem startField_length (x : Option HeadStart) : (startField x).length = 17 := by
  cases x <;> rfl

@[simp] theorem windowField_length (x : Option Window) : (windowField x).length = 5 := by
  cases x <;> rfl

@[simp] theorem errorField_length (a : Axis) : (errorField a).length = 8 := by
  unfold errorField
  split <;> rfl

@[simp] theorem captureField_length (x : Option Capture) : (captureField x).length = 17 := by
  cases x <;> rfl

@[simp] theorem endingField_length (x : Option (HomingEnd × HomingPhase)) :
    (endingField x).length = 2 := by
  cases x <;> rfl

@[simp] theorem segmentContents_length (r : SegmentRecord) : (segmentContents r).length = 36 := by
  cases r <;> rfl

@[simp] theorem segmentEngine_length (t : TableMemory) (r : SegmentRecord) :
    (segmentEngine t r).length = 2 := by
  cases r <;> rfl

/-! ### The sizes of the replies -/

theorem statusUnit_length (s : State) : (statusUnit s).length = 53 := by simp [statusUnit]

theorem statusQueues_length (s : State) : (statusQueues s).length = 49 := by simp [statusQueues]

theorem statusMemory_length (s : State) : (statusMemory s).length = 20 := by simp [statusMemory]

theorem axisMotion_length (a : Axis) : (axisMotion a).length = 54 := by simp [axisMotion]

theorem axisHead_length (a : Axis) : (axisHead a).length = 27 := by simp [axisHead]

theorem axisPair_length (a : Axis) : (axisPair a).length = 38 := by
  unfold axisPair
  split <;> simp

theorem motionField_length (g : MotionConfig) : (motionField g).length = 34 := by simp [motionField]

theorem axisSense_length (a : Axis) : (axisSense a).length = 46 := by simp [axisSense]

theorem axisCapture_length (r : IndexCapture) : (axisCapture r).length = 36 := by simp [axisCapture]

theorem axisHoming_length (h : Homing) : (axisHoming h).length = 41 := by simp [axisHoming]

theorem senseField_length (g : SenseConfig) : (senseField g).length = 34 := by simp [senseField]

theorem tableEntry_length (inRewrite : Bool) (e : DirEntry) : (tableEntry inRewrite e).length = 42 := by
  simp [tableEntry]

theorem segmentField_length (t : TableMemory) (r : SegmentRecord) : (segmentField t r).length = 39 := by
  simp [segmentField]

/-! ### The listed segments (R63) -/

/-- The two bytes of a place of a segment list: the segment and its knot count, or FF and 0. -/
def segmentPlace : Option (Nat × Nat) → List Byte
  | some (segment, count) => [segmentByte segment, byteOf count]
  | none => [absentByte, 0]

theorem tableSegments_eq (segments : List (Nat × Nat)) :
    tableSegments segments =
      byteOf segments.length :: (List.range 16).flatMap (fun k => segmentPlace segments[k]?) := by
  unfold tableSegments segmentPlace
  congr

theorem tableSegments_length (segments : List (Nat × Nat)) : (tableSegments segments).length = 33 := by
  have htwo : ∀ x, (segmentPlace x).length = 2 := fun x => by cases x <;> rfl
  simp [tableSegments_eq, List.length_flatMap, htwo]

/-- A list read place by place, over a number of places it does not exceed. -/
theorem flatMap_range_places {α β : Type} (f : Option α → List β) (l : List α) {n : Nat}
    (h : l.length ≤ n) :
    (List.range n).flatMap (fun k => f l[k]?) =
      l.flatMap (fun x => f (some x)) ++ (List.replicate (n - l.length) (f none)).flatten := by
  induction l generalizing n with
  | nil => simp [List.flatMap_def, List.map_const']
  | cons x rest ih =>
    obtain ⟨n, rfl⟩ : ∃ m, n = m + 1 := ⟨n - 1, by simp at h; omega⟩
    simp only [List.length_cons] at h
    rw [List.range_succ_eq_map, List.flatMap_cons, List.flatMap_map, List.flatMap_cons, List.append_assoc,
      List.length_cons, Nat.add_sub_add_right, ← ih (by omega)]
    simp

end Sys2Proof.Machine
end

section
/-! The four queries (spec/12): what each carries and releases, and the statement about them (O46). -/

namespace Sys2Proof.Machine

/-! ### The requests -/

section
variable {page part : Byte} {s : State} {data : List Byte}

theorem doStatusQuery_of_part
    (h : (page.toNat = 0 ∧ part.toNat = 0 ∧ data = statusUnit s) ∨
      (page.toNat = 0 ∧ part.toNat = 1 ∧ data = statusQueues s) ∨
      (page.toNat = 1 ∧ part.toNat = 0 ∧ data = statusMemory s)) :
    doStatusQuery page part s = answerData data s := by
  rcases h with ⟨hpage, hpart, rfl⟩ | ⟨hpage, hpart, rfl⟩ | ⟨hpage, hpart, rfl⟩ <;>
    simp only [doStatusQuery, hpage, hpart]

theorem doStatusQuery_refused
    (h : 1 < page.toNat ∨ (page.toNat = 0 ∧ 1 < part.toNat) ∨ (page.toNat = 1 ∧ 0 < part.toNat)) :
    doStatusQuery page part s = answerRefused .outOfRange s := by
  unfold doStatusQuery
  split
  · omega
  · omega
  · omega
  · rfl

/-- An axis put back as it stands. -/
theorem State.setAxis_axis (s : State) (i : AxisIdx) : s.setAxis i (s.axis i) = s := by
  simp [State.setAxis, State.axis]

variable {axis : Byte} {i : AxisIdx} {b : Axis}

/-- Two parts of an axis release what they carry; the others leave the axis as it stands (R31, R139, R178). -/
theorem doAxisQuery_of_part (hn : Names axis i)
    (h : (page.toNat = 0 ∧ part.toNat = 0 ∧ data = axisMotion (s.axis i) ∧
          b = { s.axis i with late := false }) ∨
        (page.toNat = 0 ∧ part.toNat = 1 ∧ data = axisHead (s.axis i) ∧ b = s.axis i) ∨
        (page.toNat = 0 ∧ part.toNat = 2 ∧ data = axisPair (s.axis i) ∧ b = s.axis i) ∨
        (page.toNat = 0 ∧ part.toNat = 3 ∧ data = motionField (s.axis i).motion ∧ b = s.axis i) ∨
        (page.toNat = 1 ∧ part.toNat = 0 ∧ data = axisSense (s.axis i) ∧ b = s.axis i) ∨
        (page.toNat = 1 ∧ part.toNat = 1 ∧ data = axisCapture (s.axis i).encoder.capture ∧
          b = (s.axis i).releaseCapture) ∨
        (page.toNat = 1 ∧ part.toNat = 2 ∧ data = axisHoming (s.axis i).homing ∧ b = s.axis i) ∨
        (page.toNat = 1 ∧ part.toNat = 3 ∧ data = senseField (s.axis i).sense ∧ b = s.axis i)) :
    doAxisQuery axis page part s = answerData data (s.setAxis i b) := by
  rw [doAxisQuery, onAxisIndex_of_names hn]
  rcases h with ⟨hpage, hpart, rfl, rfl⟩ | ⟨hpage, hpart, rfl, rfl⟩ | ⟨hpage, hpart, rfl, rfl⟩ |
    ⟨hpage, hpart, rfl, rfl⟩ | ⟨hpage, hpart, rfl, rfl⟩ | ⟨hpage, hpart, rfl, rfl⟩ |
    ⟨hpage, hpart, rfl, rfl⟩ | ⟨hpage, hpart, rfl, rfl⟩ <;>
    simp only [hpage, hpart, State.setAxis_axis, State.onAxis, Axis.releaseLate]

theorem doAxisQuery_refused (hn : Names axis i) (h : 1 < page.toNat ∨ 3 < part.toNat) :
    doAxisQuery axis page part s = answerRefused .outOfRange s := by
  rw [doAxisQuery, onAxisIndex_of_names hn]
  dsimp only
  split
  case h_9 => rfl
  all_goals omega

variable {table : Byte} {id : TableId}

theorem doTableQuery_entry (hid : table.toNat = id.val) (hpart : part.toNat = 0) :
    doTableQuery table part s = answerData (tableEntry (s.memory.concerns id) (s.entry id)) s := by
  simp only [doTableQuery, readTable_of_toNat_eq hid, hpart]

theorem doTableQuery_segments (hid : table.toNat = id.val) (hpart : part.toNat = 1) :
    doTableQuery table part s = answerData (tableSegments (s.entry id).segments) s := by
  simp only [doTableQuery, readTable_of_toNat_eq hid, hpart]

theorem doTableQuery_refused (h : 63 < table.toNat ∨ 1 < part.toNat) :
    doTableQuery table part s = answerRefused .outOfRange s := by
  rcases h with h | h
  · simp only [doTableQuery, readTable_of_gt h]
  · unfold doTableQuery
    split
    · omega
    · omega
    · rfl

end

/-! ### The bytes of each part

The optional fields stand as parts of their own, so that each is read by its own cases. -/

section
variable (s : State)

theorem statusUnit_eq {ramp : List Byte} (hramp : rampField s.clock.ramp = ramp) :
    statusUnit s =
      [codeIn [.scanning, .complete] s.memory.startUp, BitVec.ofNat 8 s.link.ownAddress.toNat,
        codeIn [.stopped, .running] s.clock.state,
        BitVec.ofNat 8 (bitsByte [s.clock.skyLimit, s.clock.softHold, s.clock.holdLine.active,
          s.clock.haltLine.active, s.clock.softHold || s.clock.holdLine.active])] ++
      beBytes 8 s.clock.skyLane ++ beBytes 8 s.clock.showLane ++ beBytes 8 s.clock.rate ++ ramp ++
      [codeIn [.serve, .defer] s.clock.settings.policy,
        codeIn [false, true] s.clock.settings.showHaltsOnHold,
        BitVec.ofNat 8 s.clock.settings.holdWindow, BitVec.ofNat 8 s.clock.settings.haltWindow] := by
  have haddress : s.link.ownAddress.zeroExtend 8 = BitVec.ofNat 8 s.link.ownAddress.toNat :=
    BitVec.ofNat_toNat 8 _ |>.symm
  simp only [statusUnit, clockFlags, SkyClock.holdInForce, settingsField, haddress, hramp, flagsField_eq,
    StartUp.code_eq, ClockState.code_eq, SuspendPolicy.code_eq, flagCode_eq, signed64_eq]

theorem statusQueues_eq {head failure : List Byte} (hhead : headField s.cues.records = head)
    (hfailure : failureField s.cues.lastFailure = failure) :
    statusQueues s =
      maybe64 s.clock.pendingSky ++ maybe64 s.clock.pendingShow ++
      BitVec.ofNat 8 (bitsByte [s.link.attention.rewriteEnd, s.link.attention.cueFailed,
        s.link.attention.linkError, s.link.attention.skyLimit]) ::
      (beBytes 2 s.link.attention.axisFault.toNat ++ beBytes 2 s.link.attention.capture.toNat ++
      beBytes 2 s.link.attention.limit.toNat ++ beBytes 2 s.link.framingErrors ++
      beBytes 2 s.link.checkErrors ++ beBytes 2 s.link.requestOverruns ++
      beBytes 2 s.link.returnOverruns ++
      [BitVec.ofNat 8 (s.link.replies.length + 1), BitVec.ofNat 8 s.cues.records.length] ++
      head ++ failure ++ [BitVec.ofNat 8 s.cues.failures]) := by
  simp only [statusQueues, optional64_eq, attentionField_eq, field16_eq, byteOf, hhead, hfailure,
    List.append_assoc, List.cons_append]

theorem rewriteField_some (r : Rewrite) {old new : Byte}
    (hold : optionalCode (r.oldTable.map (fun t => BitVec.ofNat 8 t)) = [old])
    (hnew : optionalCode (r.newTable.map (fun t => BitVec.ofNat 8 t)) = [new]) :
    rewriteField (some r) =
      1 :: (beBytes 2 r.segment ++ [codeIn [false, true] r.eraseOnly, old, new]) := by
  simp only [rewriteField, field16_eq, flagCode_eq, hold, hnew, List.append_assoc, List.cons_append,
    List.nil_append]

theorem statusMemory_eq {rewrite outcome header : List Byte}
    (hrewrite : rewriteField s.memory.rewrite = rewrite)
    (houtcome : outcomeField s.memory.lastOutcome = outcome)
    (hheader : flagCode s.memory.staging.header.isSome :: headerField s.memory.staging.header = header) :
    statusMemory s =
      codeIn [.idle, .erasing, .eraseSuspended, .programming, .programSuspended, .aborting]
        s.memory.engine ::
      (rewrite ++ outcome ++ header ++
      [BitVec.ofNat 8 s.memory.staging.slots.length,
        codeIn [false, true] (decide (s.memory.engine ≠ .idle)),
        codeIn [.serve, .defer] s.clock.settings.policy] ++
      beBytes 2 s.memory.stalls) := by
  rw [← hheader]
  simp only [statusMemory, EngineState.code_eq, SuspendPolicy.code_eq, TableMemory.owned, byteOf, hrewrite,
    houtcome, field16_eq, flagCode_eq, List.append_assoc, List.cons_append, List.nil_append]

end

section
variable (a : Axis)

theorem axisMotion_eq {remembered limit law : Byte}
    (hremembered : optionalCode (a.remembered.map Remembered.code) = [remembered])
    (hlimit : optionalCode (a.activeLimit.map limitCode) = [limit]) (hlaw : a.law.code = law) :
    axisMotion a =
      [codeIn [.off, .ready, .homing, .tracking, .frozen, .limited, .faulted] a.state, remembered, limit,
        codeIn [false, true] a.homed,
        BitVec.ofNat 8 (bitsByte [a.offTable, a.stale, a.late, a.clamped, a.lag, a.sourceHeld,
          decide (a.lastDir = .negative)]),
        law, BitVec.ofNat 8 a.moves.length] ++
      beBytes 8 a.p ++ beBytes 8 a.w ++ beBytes 8 a.m ++ beBytes 8 a.c ++ beBytes 2 a.v ++
      beBytes 2 a.lp ++ [codeIn [.none, .follow, .homeFail, .drive, .halt] a.fault.cause] ++
      beBytes 8 a.fault.time ++
      [codeIn [.off, .ready, .homing, .tracking, .frozen, .limited, .faulted] a.fault.stateAt,
        BitVec.ofNat 8 a.fault.further] := by
  simp only [axisMotion, axisFlags, AxisState.code_eq, FaultCause.code_eq, flagCode_eq, flagsField_eq,
    signed64_eq, signed16_eq, byteOf, hremembered, hlimit, hlaw, List.append_assoc, List.cons_append,
    List.nil_append]

theorem axisHead_eq {start : List Byte} {bracket : Byte} (hstart : startField a.headStart = start)
    (hbracket : a.bracket.code = bracket) :
    axisHead a =
      start ++ [bracket, codeIn [.idle, .waiting, .granted, .discarding] a.fetchState] ++
      beBytes 8 a.wanted := by
  simp only [axisHead, hstart, hbracket, FetchState.code_eq, signed64_eq]

theorem axisPair_of_pair {low high : KnotRef} (h : a.bracket = .pair low high) :
    axisPair a =
      beBytes 2 low.index ++ beBytes 8 low.knot.time ++ beBytes 8 low.knot.angle ++
      [BitVec.ofNat 8 low.segment] ++
      beBytes 2 high.index ++ beBytes 8 high.knot.time ++ beBytes 8 high.knot.angle ++
      [BitVec.ofNat 8 high.segment] := by
  simp only [axisPair, h, pairField, knotField, field16_eq, signed64_eq, segmentByte, List.append_assoc]

theorem axisPair_of_not_pair (h : ∀ low high, a.bracket ≠ .pair low high) :
    axisPair a = List.replicate 18 0 ++ [0xFF] ++ List.replicate 18 0 ++ [0xFF] := by
  unfold axisPair
  split
  · rename_i low high hpair
    exact absurd hpair (h low high)
  all_goals rfl

/-- The following error of a measured axis, saturated (log 21). -/
theorem errorField_some {x : Int} (h : a.measured = some x) :
    errorField a = beBytes 8 (max (-2 ^ 63) (min (2 ^ 63 - 1) (a.c - x))) := by
  simp only [errorField, Axis.followingError, h, Option.map_some, signed64_eq, sat64_eq_max_min]

theorem errorField_none (h : a.measured = none) : errorField a = List.replicate 8 0 := by
  simp only [errorField, Axis.followingError, h, Option.map_none, zeros]

theorem axisSense_eq {error window : List Byte} (herror : errorField a = error)
    (hwindow : windowField a.output.window = window) :
    axisSense a =
      beBytes 8 a.encoder.count ++ beBytes 8 a.encoder.offset ++ maybe64 a.measured ++ error ++
      [BitVec.ofNat 8 a.encoder.glitches] ++
      [a.filters.home, a.filters.limPos, a.filters.limNeg, a.filters.drvFault].map
        (fun f => codeIn [none, some .low, some .high] f.accepted) ++
      [BitVec.ofNat 8 (bitsByte [a.inputActive .home, a.inputActive .limPos, a.inputActive .limNeg,
          a.inputActive .drvFault]),
        codeIn [.active, .parked, .startUp] a.output.mode,
        BitVec.ofNat 8 (bitsByte [a.output.parkPending, a.output.enable, a.output.brake,
          decide (a.output.dir = .negative), a.output.window.isSome])] ++ window := by
  simp only [axisSense, activeInputs, driveLines, inputsField, byteOf, flagsField_eq, acceptedCode_eq,
    OutputMode.code_eq, signed64_eq, optional64_eq, herror, hwindow, List.map_cons, List.map_nil]

theorem axisHoming_eq (h : Homing) {ending : List Byte} (hending : endingField h.lastEnd = ending) :
    axisHoming h =
      [codeIn [.none, .backOff, .seekSwitch, .seekIndex, .stopping] h.phase,
        codeIn [false, true] h.paused] ++
      beBytes 2 h.speed ++ beBytes 8 h.start ++ maybe64 h.switchPoint ++ maybe64 h.reference ++ ending ++
      maybe64 (h.distance.map (fun x => max (-2 ^ 63) (min (2 ^ 63 - 1) x))) := by
  have hsat : sat64 = fun x => max (-2 ^ 63) (min (2 ^ 63 - 1) x) := funext sat64_eq_max_min
  simp only [axisHoming, HomingPhase.code_eq, flagCode_eq, field16_eq, signed64_eq, optional64_eq, hending,
    hsat]

theorem axisCapture_eq (k : IndexCapture) {one : Option Capture → List Byte}
    (hsome : ∀ x, one (some x) = 1 :: (beBytes 8 x.count ++ beBytes 8 x.time))
    (hnone : one none = List.replicate 17 0) :
    axisCapture k =
      one k.current ++ one k.previous ++
        [codeIn [false, true] k.pending, BitVec.ofNat 8 k.missed] := by
  have hone : captureField = one := funext fun x => by
    cases x with
    | none => rw [hnone]; rfl
    | some x => simp only [hsome, captureField, signed64_eq]
  simp only [axisCapture, hone, flagCode_eq, byteOf]

theorem motionField_eq (g : MotionConfig) :
    motionField g =
      [codeIn [.wrapping, .bounded] g.kind] ++ beBytes 4 g.steps ++ [codeIn [.sky, .showing] g.lane] ++
      beBytes 2 g.vmax ++ beBytes 2 g.amax ++ beBytes 2 g.backlash ++ beBytes 8 g.softMin ++
      beBytes 8 g.softMax ++ beBytes 4 g.lagLimit ++
      [codeIn [.follow, .freeze] g.holdResponse, codeIn [.holdTorque, .release, .brake] g.parkMode] := by
  simp only [motionField, AxisKind.code_eq, Lane.code_eq, HoldResponse.code_eq, ParkMode.code_eq,
    field16_eq, field32_eq, signed64_eq, List.append_assoc, List.cons_append, List.nil_append]

theorem senseField_eq (h : SenseConfig) :
    senseField h =
      [codeIn [.none, .x1, .x2, .x4] h.encoderMode, codeIn [false, true] h.invert] ++
      beBytes 4 h.counts ++ beBytes 4 h.followLimit ++
      [codeIn [.none, .switch, .switchIndex] h.homeMode,
        codeIn [.positive, .negative] h.homeDirection] ++
      beBytes 2 h.homeSpeed ++ beBytes 4 h.travelLimit ++ beBytes 8 h.homeOffset ++
      [h.activeLevels.home, h.activeLevels.limPos, h.activeLevels.limNeg,
        h.activeLevels.drvFault].map (codeIn [.low, .high]) ++
      [h.windows.home, h.windows.limPos, h.windows.limNeg, h.windows.drvFault].map
        (BitVec.ofNat 8) := by
  simp only [senseField, EncoderMode.code_eq, HomeMode.code_eq, Sense.code_eq, flagCode_eq, levelCode_eq,
    inputsField, field16_eq, field32_eq, signed64_eq, List.map_cons, List.map_nil]

end

theorem tableEntry_eq (inRewrite : Bool) (e : DirEntry) {ends : List Byte}
    (hends : endField (e.ends.map Prod.fst) ++ endField (e.ends.map Prod.snd) = ends) :
    tableEntry inRewrite e =
      [codeIn [.absent, .conflicted, .part, .disordered, .complete] e.state] ++ beBytes 2 e.claims ++
      [codeIn [false, true] inRewrite] ++ beBytes 2 e.total ++ ends ++ beBytes 2 e.bound.toNat := by
  rw [← hends]
  simp only [tableEntry, DirState.code_eq, flagCode_eq, field16_eq, bytes16_eq, List.append_assoc]

theorem tableSegments_of_le {segments : List (Nat × Nat)} (h : segments.length ≤ 16) :
    tableSegments segments =
      BitVec.ofNat 8 segments.length ::
        (segments.flatMap (fun x => [BitVec.ofNat 8 x.1, BitVec.ofNat 8 x.2]) ++
          (List.replicate (16 - segments.length) [0xFF, 0]).flatten) := by
  rw [tableSegments_eq, flatMap_range_places segmentPlace segments h]
  rfl

theorem segmentField_valid (t : TableMemory) (header : Header) (first last : Knot)
    {knot : Knot → List Byte} (hknot : ∀ k, knot k = beBytes 8 k.time ++ beBytes 8 k.angle) :
    segmentField t (.valid header first last) =
      [1, BitVec.ofNat 8 header.table, BitVec.ofNat 8 header.sequence, BitVec.ofNat 8 header.count,
        codeIn [false, true] header.final] ++ knot first ++ knot last ++ [0xFF, 0xFF] := by
  simp only [segmentField, segmentContents, segmentEngine, SegmentRecord.code, headerField, knotField,
    signed64_eq, hknot, flagCode_eq, absentByte, List.append_assoc, List.cons_append, List.nil_append]

theorem segmentField_busy {t : TableMemory} {r : Rewrite} (hr : t.rewrite = some r) :
    segmentField t .busy =
      [3, 0xFF, 0, 0, 0xFF] ++ List.replicate 32 0 ++
      [codeIn [.idle, .erasing, .eraseSuspended, .programming, .programSuspended, .aborting]
        t.engine, codeIn [false, true] r.eraseOnly] := by
  simp only [segmentField, segmentContents, segmentEngine, hr, EngineState.code_eq, flagCode_eq]
  rfl

/-- Settles O46: the requests by their pages and parts, the sizes, and the bytes of each part with its
optional fields by their cases. -/
theorem queriesCarryTheirParts : Obligations.QueriesCarryTheirParts := by
  refine ⟨?_, TableMemory.concerns_iff, fun s a e inRewrite segments t r => ?_, fun s => ⟨?_, ?_, ?_⟩, rfl,
    fun a => ⟨?_, ?_, fun low high => axisPair_of_pair a, axisPair_of_not_pair a, ?_, ?_⟩,
    fun k g h one hsome hnone => ⟨axisCapture_eq k hsome hnone, motionField_eq g, senseField_eq h⟩,
    fun e inRewrite segments t header first last knot hknot => ⟨?_, tableSegments_of_le, rfl, rfl,
      segmentField_valid t header first last hknot, fun r => segmentField_busy⟩⟩
  · rintro s axis page part table segment i _ ht hn rfl _ _ rfl rfl
    have hstatus : exec (.statusQuery .addressed page part) s =
        .next (answered .addressed 0x30 (doStatusQuery page part s)) :=
      exec_of_takes ht (.statusQuery page part) rfl nofun
    have haxis : exec (.axisQuery .addressed axis page part) s =
        .next (answered .addressed 0x31 (doAxisQuery axis page part s)) :=
      exec_of_takes ht (.axisQuery axis page part) rfl nofun
    have htable : exec (.tableQuery .addressed table part) s =
        .next (answered .addressed 0x32 (doTableQuery table part s)) :=
      exec_of_takes ht (.tableQuery table part) rfl nofun
    have hsegment : exec (.segmentQuery .addressed segment) s =
        .next (answered .addressed 0x33 (doSegmentQuery segment s)) :=
      exec_of_takes ht (.segmentQuery segment) rfl nofun
    rw [hstatus, haxis, htable, hsegment]
    refine ⟨fun data h => by rw [doStatusQuery_of_part h]; rfl,
      fun h => by rw [doStatusQuery_refused h],
      fun data b h => by rw [doAxisQuery_of_part hn h]; rfl,
      fun h => by rw [doAxisQuery_refused hn h],
      fun id hid => ⟨fun hp => by rw [doTableQuery_entry hid hp]; rfl,
        fun hp => by rw [doTableQuery_segments hid hp]; rfl⟩,
      fun h => by rw [doTableQuery_refused h],
      fun h => by rw [doSegmentQuery, if_neg (by omega)]; rfl,
      fun h => by rw [doSegmentQuery, if_pos h]⟩
  · exact ⟨statusUnit_length s, statusQueues_length s, statusMemory_length s, axisMotion_length a,
      axisHead_length a, axisPair_length a, motionField_length _, axisSense_length a, axisCapture_length _,
      axisHoming_length _, senseField_length _, tableEntry_length inRewrite e,
      tableSegments_length segments, segmentField_length t r⟩
  · refine statusUnit_eq s ?_
    cases s.clock.ramp with
    | none => rfl
    | some r => simp only [rampField, signed64_eq, field16_eq]
  · refine statusQueues_eq s ?_ ?_
    · cases s.cues.records with
      | nil => rfl
      | cons c rest => simp only [headField, signed64_eq]
    · cases s.cues.lastFailure <;> rfl
  · refine statusMemory_eq s ?_ ?_ ?_
    · cases s.memory.rewrite with
      | none => rfl
      | some r =>
        refine rewriteField_some r ?_ ?_
        · cases r.oldTable <;> rfl
        · cases r.newTable <;> rfl
    · cases s.memory.lastOutcome with
      | none => rfl
      | some x => simp only [outcomeField, RewriteOutcome.code_eq, field16_eq]
    · cases s.memory.staging.header with
      | none => rfl
      | some h => simp only [headerField, flagCode_eq]; rfl
  · refine axisMotion_eq a ?_ ?_ ?_
    · rcases a.remembered with _ | _ | _ | _ <;> rfl
    · rcases a.activeLimit with _ | _ | _ <;> rfl
    · cases a.law <;> rfl
  · refine axisHead_eq a ?_ ?_
    · cases a.headStart with
      | none => rfl
      | some h => simp only [startField, signed64_eq]
    · cases a.bracket <;> rfl
  · refine axisSense_eq a ?_ ?_
    · cases hm : a.measured with
      | none => exact errorField_none a hm
      | some x => exact errorField_some a hm
    · cases a.output.window with
      | none => rfl
      | some w => simp only [windowField, Sense.code_eq, field16_eq]
  · refine axisHoming_eq a.homing ?_
    cases a.homing.lastEnd with
    | none => rfl
    | some x => simp only [endingField, HomingEnd.code_eq, HomingPhase.code_eq]
  · have hfield : knotField = knot := funext fun k => by rw [hknot, knotField, signed64_eq, signed64_eq]
    refine tableEntry_eq inRewrite e ?_
    cases e.ends with
    | none => rfl
    | some x => simp only [Option.map_some, endField, hfield, segmentByte, List.append_assoc]

end Sys2Proof.Machine
end

section
/-! The velocity step (spec/05) as R80, R81 and R82 write it, law 3, the integer square root beneath it, and
the statement about them (O20). -/

namespace Sys2Proof.Machine

/-! ### The integer square root (spec/00, Arithmetic) -/

/-- The digits below bit `k` complete a root that is at most `2 ^ k` short: each digit keeps the root's square
within `n` and halves the gap. -/
theorem isqrtFrom_brackets {k n r : Nat} (hlow : r * r ≤ n) (hhigh : n < (r + 2 ^ k) * (r + 2 ^ k)) :
    isqrtFrom k n r * isqrtFrom k n r ≤ n ∧ n < (isqrtFrom k n r + 1) * (isqrtFrom k n r + 1) := by
  induction k generalizing r with
  | zero => exact ⟨hlow, hhigh⟩
  | succ k ih =>
    rw [isqrtFrom]
    split
    case isTrue hfits =>
      have hgap : r + 2 ^ k + 2 ^ k = r + 2 ^ (k + 1) := by rw [pow_succ]; omega
      exact ih hfits (by rw [hgap]; exact hhigh)
    case isFalse hover => exact ih hlow (not_le.1 hover)

/-- Forty digits serve every number below 2^80. -/
theorem isqrt_brackets {n : Nat} (h : n < 2 ^ 80) :
    isqrt n * isqrt n ≤ n ∧ n < (isqrt n + 1) * (isqrt n + 1) :=
  isqrtFrom_brackets (Nat.zero_le n) (by rw [Nat.zero_add, ← pow_add]; exact h)

/-! ### The terms of R80 and R81 -/

theorem sign_eq_intSign (x : Int) : sign x = Int.sign x := by
  unfold sign
  split_ifs with hneg hzero
  · exact (Int.sign_eq_neg_one_of_neg hneg).symm
  · rw [hzero, Int.sign_zero]
  · exact (Int.sign_eq_one_of_pos (by omega)).symm

theorem wishedVelocity_eq (vmax amax : Nat) (d : Int) :
    wishedVelocity vmax amax d =
      Int.sign d * (min (vmax : Int) (min (d.natAbs : Int) (isqrt (2 * amax * d.natAbs)))) := by
  rw [wishedVelocity, sign_eq_intSign, Nat.cast_min, Nat.cast_min]

theorem approach_eq (amax : Nat) (v goal : Int) :
    approach amax v goal = v + max (-(amax : Int)) (min amax (goal - v)) := by
  rw [approach, clamp_eq_max_min (by omega)]

theorem approach_sub_natAbs_le (amax : Nat) (v goal : Int) :
    (approach amax v goal - v).natAbs ≤ amax := by
  rw [approach_eq]
  omega

theorem landingClamp_eq (d x : Int) :
    landingClamp d x = if d.natAbs < x.natAbs ∧ (d = 0 ∨ Int.sign x = Int.sign d) then d else x := by
  simp only [landingClamp, sign_eq_intSign]

/-! ### What the landing clamp ensures (law 3) -/

theorem landingClamp_zero (x : Int) : landingClamp 0 x = 0 := by
  unfold landingClamp
  split_ifs <;> omega

/-- A velocity beyond a target ahead has the target's sign and more than its distance, so the clamp lands. -/
theorem landingClamp_le_of_pos {d : Int} (hd : 0 < d) (x : Int) : landingClamp d x ≤ d := by
  rw [landingClamp_eq]
  split_ifs with hland
  · exact le_rfl
  · by_contra! hpast
    exact hland ⟨by omega, .inr (by
      rw [Int.sign_eq_one_of_pos hd, Int.sign_eq_one_of_pos (hd.trans hpast)])⟩

theorem le_landingClamp_of_neg {d : Int} (hd : d < 0) (x : Int) : d ≤ landingClamp d x := by
  rw [landingClamp_eq]
  split_ifs with hland
  · exact le_rfl
  · by_contra! hpast
    exact hland ⟨by omega, .inr (by
      rw [Int.sign_eq_neg_one_of_neg hd, Int.sign_eq_neg_one_of_neg (hpast.trans hd)])⟩

theorem landingClamp_of_ne {d x : Int} (h : landingClamp d x ≠ d) : landingClamp d x = x := by
  unfold landingClamp at h ⊢
  split_ifs with hland
  · exact absurd (if_pos hland) h
  · rfl

/-! ### The statement -/

/-- Settles O20, by the equations of R80 and R81's terms and what the landing clamp ensures. -/
theorem velocityStepKeepsItsLimits : Obligations.VelocityStepKeepsItsLimits := by
  refine ⟨fun _ => isqrt_brackets, ?_, ?_⟩
  · intro vmax amax d v wish x hv hwish hx
    have hstep : velocityStep vmax amax d v = landingClamp d x := by
      rw [velocityStep, approach_eq, wishedVelocity_eq, ← hwish, ← hx]
    refine ⟨hstep.trans (landingClamp_eq d x), velocityStep_natAbs_le d hv, ?_,
      fun hd => landingClamp_le_of_pos hd _, fun hd => le_landingClamp_of_neg hd _, fun hne => ?_⟩
    · rintro rfl
      exact landingClamp_zero _
    · rw [velocityStep, landingClamp_of_ne hne]
      exact approach_sub_natAbs_le amax v _
  · rintro a _ hlow hhigh rfl
    have hc : InInt64 a.c := ⟨hlow, by unfold maxInt64; omega⟩
    exact ⟨sat64_eq_max_min _, rfl, sat64_add_sub hc _⟩

end Sys2Proof.Machine
end

section
/-! Refused requests (spec/06, spec/11), and the statement about them (O8). -/

namespace Sys2Proof.Machine

/-! ### What a request's owner answers (R166) -/

/-- A result that is no refusal, or a refusal that leaves the state as it is and carries no data. -/
def Result.CarriedOrRefused (s : State) (x : Result) : Prop :=
  x.outcome.accepted = true ∨ ∃ code, x = answerRefused code s

theorem Result.CarriedOrRefused.eq_of_refused {s : State} {x : Result} (h : x.CarriedOrRefused s)
    (hdone : x.outcome ≠ .done) (hclamped : x.outcome ≠ .doneClamped) : x.state = s ∧ x.data = [] := by
  rcases h with h | ⟨code, rfl⟩
  · cases hx : x.outcome with
    | done => exact absurd hx hdone
    | doneClamped => exact absurd hx hclamped
    | _ => simp [hx, ResultCode.accepted] at h
  · exact ⟨rfl, rfl⟩

section
variable {s : State}

theorem carriedOrRefused_done (t : State) : (answerDone t).CarriedOrRefused s := .inl rfl

theorem carriedOrRefused_data (data : List Byte) (t : State) :
    (answerData data t).CarriedOrRefused s := .inl rfl

theorem carriedOrRefused_clamped (saturated : Bool) (t : State) :
    (answerClamped saturated t).CarriedOrRefused s := by
  cases saturated <;> exact .inl rfl

theorem carriedOrRefused_refused (code : ResultCode) : (answerRefused code s).CarriedOrRefused s :=
  .inr ⟨code, rfl⟩

theorem carriedOrRefused_onAxisIndex (axis : Byte) {f : AxisIdx → Result}
    (h : ∀ i, (f i).CarriedOrRefused s) : (onAxisIndex axis s f).CarriedOrRefused s := by
  rcases onAxisIndex_cases axis s f with hbad | ⟨i, hi⟩
  · rw [hbad]
    exact carriedOrRefused_refused _
  · rw [hi]
    exact h i

/-! ### The requests a cue may make -/

theorem carriedOrRefused_doAxisLaw (axis kind : Byte) (body : LawBody) :
    (doAxisLaw axis kind body s).CarriedOrRefused s := by
  refine carriedOrRefused_onAxisIndex axis fun i => ?_
  split
  · exact carriedOrRefused_refused _
  · split_ifs
    · exact carriedOrRefused_refused _
    · exact carriedOrRefused_refused _
    · exact carriedOrRefused_done _

theorem carriedOrRefused_doEnable (axis : Byte) : (doEnable axis s).CarriedOrRefused s := by
  refine carriedOrRefused_onAxisIndex axis fun i => ?_
  split
  · exact carriedOrRefused_refused _
  · exact carriedOrRefused_done _

theorem carriedOrRefused_doDisable (axis : Byte) : (doDisable axis s).CarriedOrRefused s := by
  refine carriedOrRefused_onAxisIndex axis fun i => ?_
  cases (s.axis i).state with
  | faulted => exact carriedOrRefused_refused _
  | off | ready | homing | tracking | frozen | limited => exact carriedOrRefused_done _

theorem carriedOrRefused_doTrack (axis : Byte) : (doTrack axis s).CarriedOrRefused s := by
  refine carriedOrRefused_onAxisIndex axis fun i => ?_
  split
  · exact carriedOrRefused_refused _
  · exact carriedOrRefused_done _

theorem carriedOrRefused_doStop (axis : Byte) : (doStop axis s).CarriedOrRefused s := by
  refine carriedOrRefused_onAxisIndex axis fun i => ?_
  cases (s.axis i).state with
  | off | homing | faulted => exact carriedOrRefused_refused _
  | ready | tracking | frozen | limited => exact carriedOrRefused_done _

theorem carriedOrRefused_doMove (axis : Byte) (x y : BitVec 64) :
    (doMove axis x y s).CarriedOrRefused s := by
  refine carriedOrRefused_onAxisIndex axis fun i => ?_
  split_ifs
  · exact carriedOrRefused_refused _
  · exact carriedOrRefused_refused _
  · exact carriedOrRefused_data _ _

theorem carriedOrRefused_performCueable (r : CueRequest) : (performCueable r s).CarriedOrRefused s := by
  cases r with
  | skySet | showSet | hold | release => exact carriedOrRefused_done _
  | skyRate => exact carriedOrRefused_clamped _ _
  | axisLaw axis kind body => exact carriedOrRefused_doAxisLaw axis kind body
  | enable axis => exact carriedOrRefused_doEnable axis
  | disable axis => exact carriedOrRefused_doDisable axis
  | track axis => exact carriedOrRefused_doTrack axis
  | stop axis => exact carriedOrRefused_doStop axis
  | move axis x y => exact carriedOrRefused_doMove axis x y
  | flush axis => exact carriedOrRefused_onAxisIndex axis fun _ => carriedOrRefused_data _ _

/-! ### The other requests to an axis -/

theorem carriedOrRefused_doAxisMotionConfig (axis : Byte) (f : MotionFields) :
    (doAxisMotionConfig axis f s).CarriedOrRefused s := by
  refine carriedOrRefused_onAxisIndex axis fun i => ?_
  split
  · exact carriedOrRefused_refused _
  · split
    · exact carriedOrRefused_refused _
    · exact carriedOrRefused_clamped _ _

theorem carriedOrRefused_doAxisSenseConfig (axis : Byte) (f : SenseFields) :
    (doAxisSenseConfig axis f s).CarriedOrRefused s := by
  refine carriedOrRefused_onAxisIndex axis fun i => ?_
  split
  · exact carriedOrRefused_refused _
  · split
    · exact carriedOrRefused_refused _
    · exact carriedOrRefused_clamped _ _

theorem carriedOrRefused_doHome (axis : Byte) : (doHome axis s).CarriedOrRefused s := by
  refine carriedOrRefused_onAxisIndex axis fun i => ?_
  split_ifs
  · exact carriedOrRefused_refused _
  · exact carriedOrRefused_refused _
  · exact carriedOrRefused_done _

theorem carriedOrRefused_doFaultAck (axis : Byte) : (doFaultAck axis s).CarriedOrRefused s := by
  refine carriedOrRefused_onAxisIndex axis fun i => ?_
  cases (s.axis i).state with
  | faulted => exact carriedOrRefused_done _
  | off | ready | homing | tracking | frozen | limited => exact carriedOrRefused_refused _

theorem carriedOrRefused_doAxisQuery (axis page part : Byte) :
    (doAxisQuery axis page part s).CarriedOrRefused s := by
  refine carriedOrRefused_onAxisIndex axis fun i => ?_
  dsimp only
  split
  case h_9 => exact carriedOrRefused_refused _
  all_goals exact carriedOrRefused_data _ _

/-! ### The requests to the unit, the Cue Queue and Table Memory -/

theorem carriedOrRefused_doUnitSettings (policy halts holdWindow haltWindow : Byte) :
    (doUnitSettings policy halts holdWindow haltWindow s).CarriedOrRefused s := by
  unfold doUnitSettings
  split
  · exact carriedOrRefused_clamped _ _
  · exact carriedOrRefused_refused _

theorem carriedOrRefused_doCue (time : BitVec 64) (tag kind : Byte) (payload : List Byte) :
    (doCue time tag kind payload s).CarriedOrRefused s := by
  unfold doCue
  split
  · exact carriedOrRefused_refused _
  · split
    · exact carriedOrRefused_refused _
    · split
      · exact carriedOrRefused_refused _
      · exact carriedOrRefused_data _ _

theorem carriedOrRefused_doStageHeader (table sequence count final : Byte) :
    (doStageHeader table sequence count final s).CarriedOrRefused s := by
  unfold doStageHeader
  split
  · exact carriedOrRefused_refused _
  · split
    · exact carriedOrRefused_refused _
    · exact carriedOrRefused_done _

theorem carriedOrRefused_doStageKnots (first : Byte) (knots : List KnotField) :
    (doStageKnots first knots s).CarriedOrRefused s := by
  unfold doStageKnots
  split_ifs
  · exact carriedOrRefused_refused _
  · exact carriedOrRefused_refused _
  · exact carriedOrRefused_done _

theorem carriedOrRefused_doStageClear : (doStageClear s).CarriedOrRefused s := by
  unfold doStageClear
  split_ifs
  · exact carriedOrRefused_refused _
  · exact carriedOrRefused_done _

theorem carriedOrRefused_doCommit (segment : BitVec 16) (eraseOnly : Byte) :
    (doCommit segment eraseOnly s).CarriedOrRefused s := by
  unfold doCommit
  split
  · exact carriedOrRefused_refused _
  · exact carriedOrRefused_done _

theorem carriedOrRefused_doAbortRewrite : (doAbortRewrite s).CarriedOrRefused s := by
  unfold doAbortRewrite
  cases s.memory.engine with
  | idle | aborting => exact carriedOrRefused_refused _
  | erasing | programming | eraseSuspended | programSuspended => exact carriedOrRefused_done _

theorem carriedOrRefused_doStatusQuery (page part : Byte) :
    (doStatusQuery page part s).CarriedOrRefused s := by
  unfold doStatusQuery
  split
  case h_4 => exact carriedOrRefused_refused _
  all_goals exact carriedOrRefused_data _ _

theorem carriedOrRefused_doTableQuery (table part : Byte) :
    (doTableQuery table part s).CarriedOrRefused s := by
  unfold doTableQuery
  split
  case h_3 => exact carriedOrRefused_refused _
  all_goals exact carriedOrRefused_data _ _

theorem carriedOrRefused_doSegmentQuery (segment : BitVec 16) :
    (doSegmentQuery segment s).CarriedOrRefused s := by
  unfold doSegmentQuery
  split
  · exact carriedOrRefused_refused _
  · exact carriedOrRefused_data _ _

theorem carriedOrRefused_perform (o : Origin) (r : Request) : (perform o r s).CarriedOrRefused s := by
  cases r with
  | cueable r => exact carriedOrRefused_performCueable r
  | run | sync => exact carriedOrRefused_done _
  | unitSettings policy halts holdWindow haltWindow =>
    exact carriedOrRefused_doUnitSettings policy halts holdWindow haltWindow
  | unitReset straps => cases o <;> exact carriedOrRefused_done _
  | axisMotionConfig axis f => exact carriedOrRefused_doAxisMotionConfig axis f
  | axisSenseConfig axis f => exact carriedOrRefused_doAxisSenseConfig axis f
  | home axis => exact carriedOrRefused_doHome axis
  | faultAck axis => exact carriedOrRefused_doFaultAck axis
  | cue time tag kind payload => exact carriedOrRefused_doCue time tag kind payload
  | cueCancel | clear => exact carriedOrRefused_data _ _
  | stageHeader table sequence count final =>
    exact carriedOrRefused_doStageHeader table sequence count final
  | stageKnots first knots => exact carriedOrRefused_doStageKnots first knots
  | stageClear => exact carriedOrRefused_doStageClear
  | commit segment eraseOnly => exact carriedOrRefused_doCommit segment eraseOnly
  | abortRewrite => exact carriedOrRefused_doAbortRewrite
  | statusQuery page part => exact carriedOrRefused_doStatusQuery page part
  | axisQuery axis page part => exact carriedOrRefused_doAxisQuery axis page part
  | tableQuery table part => exact carriedOrRefused_doTableQuery table part
  | segmentQuery segment => exact carriedOrRefused_doSegmentQuery segment

end

/-! ### The axis index (R93) -/

/-- The axis index byte of a request that names an axis. -/
def requestAxis : Request → Option Byte
  | .cueable (.axisLaw axis _ _) | .cueable (.enable axis) | .cueable (.disable axis)
  | .cueable (.track axis) | .cueable (.stop axis) | .cueable (.move axis _ _) | .cueable (.flush axis)
  | .axisMotionConfig axis _ | .axisSenseConfig axis _ | .home axis | .faultAck axis
  | .axisQuery axis _ _ => some axis
  | _ => none

/-- A request that names an axis tests its index before all else. -/
theorem perform_of_badAxis {r : Request} {axis : Byte} (h : requestAxis r = some axis)
    (hbad : 16 ≤ axis.toNat) (o : Origin) (s : State) : perform o r s = answerRefused .badAxis s := by
  have hrefused := onAxisIndex_of_not_lt hbad s
  cases r with
  | cueable r =>
    cases r with
    | axisLaw | enable | disable | track | stop | move | flush =>
      cases h
      simp only [perform, performCueable, doAxisLaw, doEnable, doDisable, doTrack, doStop, doMove,
        doFlush, hrefused]
    | skySet | showSet | skyRate | hold | release => cases h
  | axisMotionConfig | axisSenseConfig | home | faultAck | axisQuery =>
    cases h
    simp only [perform, doAxisMotionConfig, doAxisSenseConfig, doHome, doFaultAck, doAxisQuery, hrefused]
  | _ => cases h

theorem wf_of_requestAxis {r : Request} {axis : Byte} (h : requestAxis r = some axis) : r.wf = true := by
  cases r with
  | cueable | axisMotionConfig | axisSenseConfig | home | faultAck | axisQuery => rfl
  | _ => cases h

/-- Settles O8: every owner carries its request out or refuses it (`carriedOrRefused_perform`), and the
requests that name an axis test its index first. -/
theorem refusedRequestsChangeNothing : Obligations.RefusedRequestsChangeNothing := by
  refine ⟨fun o r s => (carriedOrRefused_perform o r).eq_of_refused, ?_⟩
  intro o s axis kind page part f g body x y ht hbad r hr hquery
  have hnames : requestAxis r = some axis := by
    simp only [List.mem_cons, List.not_mem_nil, or_false] at hr
    rcases hr with rfl | rfl | rfl | rfl | rfl | rfl | rfl | rfl | rfl | rfl | rfl | rfl <;> rfl
  rw [exec_of_takes ht r (wf_of_requestAxis hnames) hquery, perform_of_badAxis hnames hbad]

end Sys2Proof.Machine
end

section
/-! TRACK, STOP and HOME (spec/06, spec/07), and the statement about them (O25). -/

namespace Sys2Proof.Machine

theorem SkyClock.holdInForce_iff (k : SkyClock) :
    k.holdInForce = true ↔ k.softHold = true ∨ k.holdLine.active = true := by
  rw [SkyClock.holdInForce, Bool.or_eq_true]

/-- A value given to M where no soft limits bind it (R37). -/
theorem Axis.giveTarget_of_free {a : Axis} (h : a.motion.kind = .wrapping ∨ a.homed = false) (x : Int) :
    a.giveTarget x = { a with m := x } := by
  refine if_neg ?_
  rintro ⟨hkind, hhomed⟩
  rcases h with h | h
  · rw [hkind] at h
    cases h
  · rw [hhomed] at h
    cases h

section
variable {axis : Byte} {i : AxisIdx} {s : State}

/-! ### TRACK (R98) -/

/-- The checks of TRACK in their order, and what an accepted one changes; `held` is a hold in force on a FREEZE
axis. -/
theorem doTrack_of_names (hn : Names axis i) {held : Prop} [Decidable held]
    (hheld : held ↔ s.clock.holdInForce = true ∧ (s.axis i).motion.holdResponse = .freeze) :
    doTrack axis s =
      if (s.axis i).state ≠ .ready ∨ (s.axis i).law = .none then answerRefused .wrongState s
      else if (s.axis i).motion.kind = .bounded ∧ (s.axis i).homed = false then
        answerRefused .notHomed s
      else
        answerDone (s.setAxis i
          { s.axis i with rebaseDue := true, state := if held then .frozen else .tracking }) := by
  rw [doTrack, onAxisIndex_of_names hn, trackRefusal, ← ite_or]
  simp only [State.onAxis, ← hheld]
  split_ifs <;> rfl

/-! ### STOP (R99) -/

theorem doStop_of_following (hn : Names axis i)
    (h : (s.axis i).state = .tracking ∨ (s.axis i).state = .frozen) :
    doStop axis s = answerDone (s.setAxis i { s.axis i with state := .ready }) := by
  rw [doStop, onAxisIndex_of_names hn]
  rcases h with h | h <;> rw [h] <;> rfl

theorem doStop_of_ready (hn : Names axis i) (h : (s.axis i).state = .ready) :
    doStop axis s = answerDone s := by
  rw [doStop, onAxisIndex_of_names hn, h]

theorem doStop_of_limited (hn : Names axis i) (h : (s.axis i).state = .limited) :
    doStop axis s = answerDone (s.setAxis i (s.axis i).stopFromLimited) := by
  rw [doStop, onAxisIndex_of_names hn, h]
  rfl

theorem doStop_of_wrongState (hn : Names axis i)
    (h : (s.axis i).state = .off ∨ (s.axis i).state = .homing ∨ (s.axis i).state = .faulted) :
    doStop axis s = answerRefused .wrongState s := by
  rw [doStop, onAxisIndex_of_names hn]
  rcases h with h | h | h <;> rw [h]

/-! ### HOME (R100, R114) -/

theorem doHome_of_names (hn : Names axis i) :
    doHome axis s =
      if (s.axis i).state ≠ .ready ∨ (s.axis i).sense.homeMode = .none then answerRefused .wrongState s
      else answerDone (s.setAxis i ((s.axis i).beginHoming s.clock.holdInForce)) := by
  rw [doHome, onAxisIndex_of_names hn, ite_or]
  rfl

end

/-- Settles O25: the three requests by the state of their axis. -/
theorem trackStopAndHomeFollowTheirTables : Obligations.TrackStopAndHomeFollowTheirTables := by
  rintro o s axis i a ht hn rfl held hheld _
  rw [← SkyClock.holdInForce_iff] at hheld
  have htrack : exec (.track o axis) s = .next (answered o 0x16 (doTrack axis s)) :=
    exec_of_takes ht (.cueable (.track axis)) rfl fun _ => rfl
  have hstop : exec (.stop o axis) s = .next (answered o 0x17 (doStop axis s)) :=
    exec_of_takes ht (.cueable (.stop axis)) rfl fun _ => rfl
  have hhome : exec (.home o axis) s = .next (answered o 0x15 (doHome axis s)) :=
    exec_of_takes ht (.home axis) rfl fun _ => rfl
  rw [htrack, hstop, hhome, doTrack_of_names hn hheld, doHome_of_names hn]
  refine ⟨fun h => ?_, fun hready hlaw hkind hhomed => ?_, fun hready hlaw hhomed => ?_, fun h => ?_,
    fun h => ?_, fun h hfree => ?_, fun h hkind hhomed hlimits => ?_, fun h => ?_, fun h => ?_,
    fun hready hmode => ?_⟩
  · rw [if_pos h]
  · rw [if_neg (by simp [hready, hlaw]), if_pos ⟨hkind, hhomed⟩]
  · have hpass : ¬((s.axis i).motion.kind = .bounded ∧ (s.axis i).homed = false) := by
      rintro ⟨hkind, hnot⟩
      rw [hhomed hkind] at hnot
      cases hnot
    rw [if_neg (by simp [hready, hlaw]), if_neg hpass]
  · rw [doStop_of_following hn h]
  · rw [doStop_of_ready hn h]
  · rw [doStop_of_limited hn h, Axis.stopFromLimited, Axis.giveTarget_of_free hfree]
  · rw [doStop_of_limited hn h, Axis.stopFromLimited, Axis.giveTarget_eq hlimits.le]
    simp only [hkind, hhomed, and_self, if_true]
  · rw [doStop_of_wrongState hn h]
  · rw [if_pos h]
  · rw [if_neg (by simp [hready, hmode])]
    simp only [Axis.beginHoming, hheld, Bool.decide_and, Bool.decide_eq_true]

end Sys2Proof.Machine
end

section
/-! Acceptances of the end stops and of HOME (spec/06, spec/07), and the statement about them (O32). -/

namespace Sys2Proof.Machine

/-! ### The acceptance commands -/

section
variable {i : AxisIdx} {stop : EndStop} {level : Level} {s : State}

/-- With power, the acceptance command hands the end stop on, with the level accepted. -/
theorem exec_limitAcceptance (hp : s.power = .on) (h : (s.axis i).accepts (stopInput stop) level) :
    exec (.limitAcceptance i stop level) s =
      .next (handLimit i stop
        (decide (level = (s.axis i).sense.activeLevels.get (stopInput stop)))
        (s.setAxis i ((s.axis i).accept (stopInput stop) level))) := by
  have hexec : exec (.limitAcceptance i stop level) s = .next (acceptInput i (stopInput stop) level s) := by
    simp [exec, execLimitAcceptance, whenOn, hp]
  rw [hexec, acceptInput_of_accepts h, sampleInput_of_accepts h]
  cases stop <;> rfl

/-! ### End stops (R103, R121) -/

theorem stopOnSide_iff (stop : EndStop) (v d : Int) :
    stopOnSide stop v d = true ↔
      (stop = .limPos ∧ (0 < v ∨ 0 < d)) ∨ (stop = .limNeg ∧ (v < 0 ∨ d < 0)) := by
  cases stop <;> simp [stopOnSide]

/-- The goal velocity by the phase, `h` the sign of the home direction. -/
theorem Axis.homingGoal_eq {a : Axis} {h : Int}
    (hh : h = if a.sense.homeDirection = .positive then 1 else -1) :
    a.homingGoal =
      if a.homing.paused then 0
      else if a.homing.phase = .backOff then -h * a.homing.speed
      else if a.homing.phase = .seekSwitch ∨ a.homing.phase = .seekIndex then h * a.homing.speed
      else 0 := by
  have hunit : a.sense.homeDirection.unit = h := by
    rw [hh]
    cases a.sense.homeDirection <;> rfl
  unfold Axis.homingGoal
  rw [hunit]
  cases a.homing.phase <;> simp

theorem handLimit_of_inactive : handLimit i stop false s = s := rfl

variable {a : Axis}

/-- A WRAPPING axis meets no end stop. -/
theorem handLimit_of_wrapping (ha : s.axis i = a) (h : a.motion.kind = .wrapping) (active : Bool) :
    handLimit i stop active s = s := by
  simp [handLimit, Axis.homingMeetsStop, Axis.meetsStop, ha, h]

/-- The states that an end stop neither limits nor faults. -/
theorem handLimit_of_rest (ha : s.axis i = a)
    (h : a.state = .off ∨ a.state = .limited ∨ a.state = .faulted) (active : Bool) :
    handLimit i stop active s = s := by
  rcases h with h | h | h <;> simp [handLimit, Axis.meetsStop, AxisState.toRemembered, ha, h]

theorem handLimit_of_homing (ha : s.axis i = a) (hkind : a.motion.kind = .bounded)
    (hactive : a.inputActive (stopInput stop) = true) (h : a.state = .homing) :
    handLimit i stop true s =
      if stopOnSide stop a.v a.homingGoal = true then takeCause .homeFail i s else s := by
  have hcause : takeCause .homeFail i s = faultAxis i .homeFail s :=
    takeCause_of_active .homeFail (by simp [ha, h]) (by simp [ha, h])
  simp [handLimit, Axis.homingMeetsStop, hcause, ha, hkind, hactive, h]

theorem handLimit_of_driven (ha : s.axis i = a) (hkind : a.motion.kind = .bounded)
    (hactive : a.inputActive (stopInput stop) = true) (h : a.state.Driven) :
    handLimit i stop true s =
      if stopOnSide stop a.v (a.m - a.c) = true then limitAxis i stop s else s := by
  have hhoming : a.state ≠ .homing := by rcases h with h | h | h <;> simp [h]
  have hsome : a.state.toRemembered.isSome = true := by
    rw [h.toRemembered]
    split_ifs <;> rfl
  simp [handLimit, Axis.meetsStop, ha, hkind, hactive, hsome, hhoming]

/-- Entry to LIMITED from a state that moves, of an axis just written. -/
theorem limitAxis_setAxis (h : a.state.Driven) :
    limitAxis i stop (s.setAxis i a) =
      (s.raise (.limit i)).setAxis i
        { a with
          remembered :=
            if a.state = .ready then some .ready
            else if a.state = .tracking then some .tracking else some .frozen
          activeLimit := some stop, v := 0, state := .limited, stopTaken := true } := by
  rw [limitAxis, State.onAxis, State.axis_setAxis_same, setAxis_setAxis, Axis.enterLimited,
    h.toRemembered]
  rfl

/-! ### HOME in a homing (R116 to R119) -/

/-- An accepted level is shown, and leaves a homing as it is. -/
@[simp] theorem Axis.accept_homing (k : InputKind) (level : Level) (a : Axis) :
    (a.accept k level).homing = a.homing := rfl

/-- The phases that HOME does not end. -/
theorem Axis.homingTakesHome_of_shown {active : Bool}
    (h : a.homing.phase = .none ∨ a.homing.phase = .seekIndex ∨ a.homing.phase = .stopping ∨
      (a.homing.phase = .backOff ∧ active = true) ∨ (a.homing.phase = .seekSwitch ∧ active = false)) :
    a.homingTakesHome active = a := by
  unfold Axis.homingTakesHome
  rcases h with h | h | h | ⟨h, rfl⟩ | ⟨h, rfl⟩ <;> rw [h] <;> rfl

theorem Axis.homingTakesHome_of_backOff (h : a.homing.phase = .backOff) :
    a.homingTakesHome false = { a with homing := { a.homing with phase := .seekSwitch } } := by
  unfold Axis.homingTakesHome
  rw [h]
  rfl

theorem Axis.homingTakesHome_of_seekSwitch (h : a.homing.phase = .seekSwitch) :
    a.homingTakesHome true =
      { a with
        homing :=
          { a.homing with
            switchPoint := some a.c
            reference := if a.sense.homeMode = .switchIndex then a.homing.reference else some a.c
            phase := if a.sense.homeMode = .switchIndex then .seekIndex else .stopping } } := by
  simp only [Axis.homingTakesHome, h, if_true]
  split_ifs <;> rfl

/-- HOME is taken by a homing; in any other state it only shows. -/
theorem exec_homeAcceptance (hp : s.power = .on) (h : (s.axis i).accepts .home level) :
    exec (.homeAcceptance i level) s =
      .next (s.setAxis i
        (if (s.axis i).state = .homing then
          ((s.axis i).accept .home level).homingTakesHome
            (decide (level = (s.axis i).sense.activeLevels.home))
        else (s.axis i).accept .home level)) := by
  have hexec : exec (.homeAcceptance i level) s = .next (acceptInput i .home level s) := by
    simp [exec, execHomeAcceptance, whenOn, hp]
  rw [hexec, acceptInput_of_accepts h, sampleInput_of_accepts h]
  simp only [handInput, handHome, State.onAxis, State.axis_setAxis_same, setAxis_setAxis, Axis.accept]
  split_ifs <;> rfl

end

/-- Settles O32: the level is accepted, then the end stop or HOME is handed to the axis. -/
theorem limitAndHomeAcceptancesReachTheAxis : Obligations.LimitAndHomeAcceptancesReachTheAxis := by
  refine ⟨⟨rfl, rfl⟩, ?_, ?_⟩
  · rintro i stop level s a b hp rfl haccepts rfl side h goal hh hgoal hside
    have hside : ∀ x, side x ↔ stopOnSide stop (s.axis i).v x = true := fun x =>
      (hside x).trans (stopOnSide_iff stop _ x).symm
    have hgoal : (s.axis i).homingGoal = goal := (Axis.homingGoal_eq hh).trans hgoal.symm
    rw [exec_limitAcceptance hp haccepts]
    have haxis := s.axis_setAxis_same i ((s.axis i).accept (stopInput stop) level)
    have hactive : level = (s.axis i).sense.activeLevels.get (stopInput stop) →
        ((s.axis i).accept (stopInput stop) level).inputActive (stopInput stop) = true :=
      fun hlevel => (Axis.inputActive_accept _ _ _).trans (decide_eq_true hlevel)
    refine ⟨fun h => ?_, fun hlevel hkind => ⟨fun hdriven => ?_, fun hhoming => ?_⟩⟩
    · by_cases hlevel : level = (s.axis i).sense.activeLevels.get (stopInput stop)
      · rcases h.resolve_left (not_not.2 hlevel) with hkind | hrest
        · rw [handLimit_of_wrapping haxis hkind]
        · rw [handLimit_of_rest haxis hrest]
      · rw [decide_eq_false hlevel, handLimit_of_inactive]
    · rw [decide_eq_true hlevel, handLimit_of_driven haxis hkind (hactive hlevel) hdriven, hside]
      refine ⟨fun h => ?_, fun h => ?_⟩
      · exact congrArg _ (if_neg h)
      · exact congrArg _ ((if_pos h).trans (limitAxis_setAxis hdriven))
    · rw [decide_eq_true hlevel, handLimit_of_homing haxis hkind (hactive hlevel) hhoming, hside, ← hgoal]
      exact ⟨fun h => congrArg _ (if_neg h), fun h => congrArg _ (if_pos h)⟩
  · rintro i level s a b hp rfl haccepts rfl active hactive
    rw [exec_homeAcceptance hp haccepts]
    refine ⟨fun h => ?_, fun hhoming hphase hlevel => ?_, fun hhoming hphase hlevel => ?_⟩
    · split_ifs with hhoming
      · rw [Axis.homingTakesHome_of_shown]
        simpa only [Axis.accept_homing, decide_eq_true_eq, decide_eq_false_iff_not, ← hactive] using
          h.resolve_left (not_not.2 hhoming)
      · rfl
    · rw [← Axis.accept_homing .home level] at hphase
      rw [if_pos hhoming, decide_eq_false (mt hactive.2 hlevel), Axis.homingTakesHome_of_backOff hphase]
      rfl
    · rw [← Axis.accept_homing .home level] at hphase
      rw [if_pos hhoming, decide_eq_true (hactive.1 hlevel), Axis.homingTakesHome_of_seekSwitch hphase]
      rfl

end Sys2Proof.Machine
end

section
/-! AXIS_SENSE_CONFIG (spec/07, spec/08), and the statement about it (O29). -/

namespace Sys2Proof.Machine

/-! ### Code bytes -/

/-- A code picked from its list by a byte is encoded as that byte. -/
theorem codeIn_getD {α : Type} [DecidableEq α] {codes : List α} (hd : codes.Nodup) {b : Byte}
    (h : b.toNat < codes.length) (x : α) : codeIn codes (codes.getD b.toNat x) = b := by
  rw [List.getD_eq_getElem _ _ h, codeIn, hd.idxOf_getElem, BitVec.ofNat_toNat, BitVec.setWidth_eq]

theorem readSense_eq (b : Byte) :
    readSense b = if b.toNat ≤ 1 then some ([.positive, .negative].getD b.toNat .positive) else none := by
  unfold readSense
  rcases b.toNat with _ | _ | n <;> simp

theorem readLevel_eq (b : Byte) :
    readLevel b = if b.toNat ≤ 1 then some (if b.toNat = 0 then .low else .high) else none := by
  unfold readLevel
  rcases b.toNat with _ | _ | n <;> simp

theorem readEncoderMode_eq (b : Byte) :
    readEncoderMode b =
      if b.toNat ≤ 3 then some ([.none, .x1, .x2, .x4].getD b.toNat .none) else none := by
  unfold readEncoderMode
  rcases b.toNat with _ | _ | _ | _ | n <;> simp

theorem readHomeMode_eq (b : Byte) :
    readHomeMode b =
      if b.toNat ≤ 2 then some ([.none, .switch, .switchIndex].getD b.toNat .none) else none := by
  unfold readHomeMode
  rcases b.toNat with _ | _ | _ | n <;> simp

/-! ### The record a request carries (R113, R133) -/

/-- The ranges of the fields that have no clamping rule (R113, R133). -/
def SenseInRange (f : SenseFields) : Prop :=
  f.encoderMode.toNat ≤ 3 ∧ f.invert.toNat ≤ 1 ∧ 1 ≤ f.counts.toNat ∧ f.counts.toNat ≤ 16777216 ∧
    f.followLimit.toNat ≤ 2 ^ 31 - 1 ∧ f.homeMode.toNat ≤ 2 ∧ f.homeDirection.toNat ≤ 1 ∧
    1 ≤ f.travelLimit.toNat ∧ f.travelLimit.toNat ≤ 2 ^ 31 - 1 ∧ f.activeLevels.home.toNat ≤ 1 ∧
    f.activeLevels.limPos.toNat ≤ 1 ∧ f.activeLevels.limNeg.toNat ≤ 1 ∧
    f.activeLevels.drvFault.toNat ≤ 1

/-- The active levels that level bytes in range spell. -/
def activeLevelsOf (b : InputBytes) : PerInput Level :=
  { home := if b.home.toNat = 0 then .low else .high
    limPos := if b.limPos.toNat = 0 then .low else .high
    limNeg := if b.limNeg.toNat = 0 then .low else .high
    drvFault := if b.drvFault.toNat = 0 then .low else .high }

/-- The record that fields in their ranges spell, the home speed and the filter windows saturated. -/
def senseConfigOf (f : SenseFields) : SenseConfig :=
  { encoderMode := [.none, .x1, .x2, .x4].getD f.encoderMode.toNat .none
    invert := decide (f.invert.toNat = 1)
    counts := f.counts.toNat, followLimit := f.followLimit.toNat
    homeMode := [.none, .switch, .switchIndex].getD f.homeMode.toNat .none
    homeDirection := [.positive, .negative].getD f.homeDirection.toNat .positive
    homeSpeed := (max 1 (min 500 f.homeSpeed.toInt)).toNat
    travelLimit := f.travelLimit.toNat, homeOffset := f.homeOffset.toInt
    activeLevels := activeLevelsOf f.activeLevels, windows := readWindows f.windows }

theorem readLevels_of_inRange {b : InputBytes} (hhome : b.home.toNat ≤ 1) (hpos : b.limPos.toNat ≤ 1)
    (hneg : b.limNeg.toNat ≤ 1) (hdrive : b.drvFault.toNat ≤ 1) :
    readLevels b = some (activeLevelsOf b) := by
  simp [readLevels, readLevel_eq, activeLevelsOf, hhome, hpos, hneg, hdrive]

/-- A request in range spells its record, and any other is refused. -/
theorem readSenseConfig_of_inRange {f : SenseFields} (h : SenseInRange f) :
    readSenseConfig f = some (senseConfigOf f) := by
  obtain ⟨hencoder, hinvert, hlow, hhigh, hfollow, hmode, hdirection, hshort, hlong, hhome, hpos, hneg,
    hdrive⟩ := h
  simp [readSenseConfig, readEncoderMode_eq, readFlag_eq, readRange, readHomeMode_eq, readSense_eq,
    readLevels_of_inRange hhome hpos hneg hdrive, saturateSpeed_eq, senseConfigOf, hencoder, hinvert,
    hlow, hhigh, show f.followLimit.toNat ≤ 2147483647 from hfollow, hmode, hdirection, hshort,
    show f.travelLimit.toNat ≤ 2147483647 from hlong]

theorem readSenseConfig_of_not_inRange {f : SenseFields} (h : ¬SenseInRange f) :
    readSenseConfig f = none := by
  cases hread : readSenseConfig f with
  | none => rfl
  | some g =>
    simp only [readSenseConfig, readLevels, Option.bind_eq_bind, Option.bind_eq_some_iff,
      readEncoderMode_eq, readFlag_eq, readRange, readHomeMode_eq, readSense_eq, readLevel_eq,
      Option.ite_none_right_eq_some] at hread
    obtain ⟨_, ⟨hencoder, -⟩, _, ⟨hinvert, -⟩, _, ⟨⟨hlow, hhigh⟩, -⟩, _, ⟨⟨-, hfollow⟩, -⟩, _,
      ⟨hmode, -⟩, _, ⟨hdirection, -⟩, _, ⟨⟨hshort, hlong⟩, -⟩, _,
      ⟨_, ⟨hhome, -⟩, _, ⟨hpos, -⟩, _, ⟨hneg, -⟩, _, ⟨hdrive, -⟩, -⟩, -⟩ := hread
    exact absurd ⟨hencoder, hinvert, hlow, hhigh, hfollow, hmode, hdirection, hshort, hlong, hhome, hpos,
      hneg, hdrive⟩ h

theorem senseSaturates_iff (f : SenseFields) :
    senseSaturates f = true ↔
      f.homeSpeed.toInt < 1 ∨ 500 < f.homeSpeed.toInt ∨ 15 < f.windows.home.toNat ∨
        15 < f.windows.limPos.toNat ∨ 15 < f.windows.limNeg.toNat ∨ 15 < f.windows.drvFault.toNat := by
  simp [senseSaturates, speedSaturates, windowsSaturate, windowSaturates, or_assoc]

/-! ### The write (R95, R128) -/

/-- OFF takes no acceptance: no cause, no homing and no end stop reaches it (R103, R107, R127). -/
theorem handInput_of_off {i : AxisIdx} {s : State} (h : (s.axis i).state = .off) (k : InputKind)
    (active : Bool) : handInput i k active s = s := by
  have hlimit : ∀ stop, handLimit i stop active s = s := fun _ => handLimit_of_rest rfl (.inl h) active
  cases k with
  | home => exact if_neg (by simp [h])
  | limPos => exact hlimit .limPos
  | limNeg => exact hlimit .limNeg
  | drvFault => simp [handInput, handDrvFault, takeCause_of_off .drive h]

/-- An input whose meaning a write turned changes nothing in OFF (R128). -/
theorem foldl_handTurned_of_off {i : AxisIdx} {s : State} (h : (s.axis i).state = .off) (before : Axis)
    (inputs : List InputKind) : inputs.foldl (handTurned before i) s = s := by
  induction inputs with
  | nil => rfl
  | cons k inputs ih =>
    have hturned : handTurned before i s k = s := by
      rw [handTurned, handInput_of_off h, ite_self]
    rw [List.foldl_cons, hturned, ih]

/-- What AXIS_SENSE_CONFIG does on the axis it names: its checks in their order, then the write. -/
theorem doAxisSenseConfig_of_names {axis : Byte} {i : AxisIdx} (hn : Names axis i) (f : SenseFields)
    (s : State) :
    doAxisSenseConfig axis f s =
      if (s.axis i).state ≠ .off then answerRefused .wrongState s
      else
        (readSenseConfig f).elim (answerRefused .outOfRange s) fun g =>
          answerClamped (senseSaturates f) (s.onAxis i (Axis.configureSense g)) := by
  rw [doAxisSenseConfig, onAxisIndex_of_names hn]
  refine ite_congr rfl (fun _ => rfl) fun hoff => ?_
  cases readSenseConfig f with
  | none => rfl
  | some g =>
    have hstill : ((s.onAxis i (Axis.configureSense g)).axis i).state = .off := by
      rw [State.axis_onAxis_same]
      exact not_not.1 hoff
    simp only [foldl_handTurned_of_off hstill, Option.elim_some]

/-- Settles O29: the state and the ranges are tested, and the write changes the record and the homed flag. -/
theorem axisSenseConfigIsTakenInOff : Obligations.AxisSenseConfigIsTakenInOff := by
  rintro o s axis f i a ht hn rfl inRange hrange
  have hrange : inRange ↔ SenseInRange f := hrange
  have hexec : exec (.axisSenseConfig o axis f) s =
      .next (answered o 0x11 (doAxisSenseConfig axis f s)) :=
    exec_of_takes ht (.axisSenseConfig axis f) rfl fun _ => rfl
  rw [hexec, doAxisSenseConfig_of_names hn]
  refine ⟨fun h => by rw [if_pos h], fun hoff h => ?_, fun hoff h => ?_⟩
  · rw [if_neg (not_not.2 hoff), readSenseConfig_of_not_inRange (mt hrange.2 h)]
    rfl
  · have hin := hrange.1 h
    have ⟨hencoder, _, _, _, _, hmode, hdirection, _⟩ := hin
    rw [if_neg (not_not.2 hoff), readSenseConfig_of_inRange hin]
    refine ⟨senseConfigOf f, ?_, codeIn_getD (by decide) (Nat.lt_succ_of_le hencoder) _, rfl, rfl, rfl,
      codeIn_getD (by decide) (Nat.lt_succ_of_le hmode) _,
      codeIn_getD (by decide) (Nat.lt_succ_of_le hdirection) _, rfl, rfl, rfl, rfl, rfl⟩
    simp only [Option.elim_some, answerClamped, senseSaturates_iff, State.onAxis, Axis.configureSense,
      Bool.decide_and, Bool.and_assoc]

end Sys2Proof.Machine
end

section
/-! Index events (spec/07, spec/08), and the statement about them (O34). -/

namespace Sys2Proof.Machine

/-! ### Index events (R118, R137, R138, R140) -/

section
variable {i : AxisIdx} {level : Level} {s : State}

/-- Without a rise from a level seen low, and without an encoder, ENC_I only shows its level. -/
theorem seeIndex_of_no_event
    (h : level = .low ∨ (s.axis i).encoder.index ≠ some .low ∨ (s.axis i).sense.encoderMode = .none) :
    seeIndex i level s =
      s.setAxis i { s.axis i with encoder := { (s.axis i).encoder with index := some level } } := by
  rw [seeIndex]
  split_ifs with hrise
  · obtain ⟨hlow, rfl⟩ := hrise
    have hmode : (s.axis i).sense.encoderMode = .none := by simpa [hlow] using h
    rw [indexEventTaken, if_pos (by rw [State.axis_setAxis_same]; exact hmode)]
  · rfl

/-- A rise from a level seen low is an index event of the axis that shows it. -/
theorem seeIndex_of_rise (hlow : (s.axis i).encoder.index = some .low) :
    seeIndex i .high s =
      indexEventTaken i
        (s.setAxis i { s.axis i with encoder := { (s.axis i).encoder with index := some .high } }) :=
  if_pos ⟨hlow, rfl⟩

theorem Axis.homingTakesIndex_eq (a : Axis) :
    a.homingTakesIndex =
      if a.homing.phase = .seekIndex then
        { a with homing := { a.homing with reference := some a.c, phase := .stopping } }
      else a := by
  unfold Axis.homingTakesIndex
  cases a.homing.phase <;> rfl

theorem indexEventTaken_of_homing (hmode : (s.axis i).sense.encoderMode ≠ .none)
    (h : (s.axis i).state = .homing) : indexEventTaken i s = s.onAxis i Axis.homingTakesIndex := by
  rw [indexEventTaken, if_neg hmode, if_pos h]

/-- Outside HOMING the record takes the event, and the CAPTURE cause is raised when none was pending. -/
theorem indexEventTaken_of_record (hmode : (s.axis i).sense.encoderMode ≠ .none)
    (h : (s.axis i).state ≠ .homing) :
    indexEventTaken i s =
      (if (s.axis i).encoder.capture.pending then s else s.raise (.capture i)).setAxis i
        { s.axis i with
          encoder :=
            { (s.axis i).encoder with
              capture :=
                (s.axis i).encoder.capture.take
                  { count := (s.axis i).encoder.count, time := s.clock.showLane } } } := by
  rw [indexEventTaken, if_neg hmode, if_neg h]
  split_ifs <;> rfl

end

theorem IndexCapture.take_of_pending {r : IndexCapture} (h : r.pending = true) (x : Capture) :
    r.take x = { r with missed := min 255 (r.missed + 1) } :=
  if_pos h

theorem IndexCapture.take_of_free {r : IndexCapture} (h : r.pending = false) (x : Capture) :
    r.take x = { r with current := some x, previous := r.current, pending := true } :=
  if_neg (by simp [h])

/-- Settles O34: the level is shown, and an index event goes to the homing or to the record. -/
theorem indexEventsAreCapturedOrCounted : Obligations.IndexEventsAreCapturedOrCounted := by
  rintro i level s a b hp rfl rfl
  have hexec : exec (.indexEvent i level) s = .next (seeIndex i level s) := whenOn_of_on hp _
  rw [hexec]
  refine ⟨fun h => by rw [seeIndex_of_no_event h], ?_⟩
  rintro rfl hlow hmode
  rw [seeIndex_of_rise hlow]
  have haxis := s.axis_setAxis_same i
    { s.axis i with encoder := { (s.axis i).encoder with index := some .high } }
  refine ⟨fun hstate => ?_, fun hstate hpending => ?_, fun hstate hfree => ?_⟩
  · rw [indexEventTaken_of_homing (by rw [haxis]; exact hmode) (by rw [haxis]; exact hstate),
      State.onAxis, haxis, setAxis_setAxis, Axis.homingTakesIndex_eq]
  · rw [indexEventTaken_of_record (by rw [haxis]; exact hmode) (by rw [haxis]; exact hstate), haxis,
      IndexCapture.take_of_pending hpending, if_pos hpending, setAxis_setAxis]
  · rw [indexEventTaken_of_record (by rw [haxis]; exact hmode) (by rw [haxis]; exact hstate), haxis,
      IndexCapture.take_of_free hfree, if_neg (by simp [hfree])]
    exact congrArg _ (setAxis_setAxis (s.raise (.capture i)) i _ _)

end Sys2Proof.Machine
end

section
/-! Homing turns (spec/05, spec/07), and the statement about them (O23). -/

namespace Sys2Proof.Machine

/-! ### The failures of a homing turn (R120, R121) -/

theorem HomingPhase.seeks_iff (x : HomingPhase) :
    x.seeks = true ↔ x = .backOff ∨ x = .seekSwitch ∨ x = .seekIndex := by
  cases x <;> simp [HomingPhase.seeks]

theorem Axis.travelExceeded_iff (a : Axis) :
    a.travelExceeded = true ↔
      (a.homing.phase = .backOff ∨ a.homing.phase = .seekSwitch ∨ a.homing.phase = .seekIndex) ∧
        a.sense.travelLimit < (a.c - a.homing.start).natAbs := by
  rw [Axis.travelExceeded, Bool.and_eq_true, HomingPhase.seeks_iff, decide_eq_true_eq]

theorem Axis.homingMeetsStop_iff (stop : EndStop) (a : Axis) :
    a.homingMeetsStop stop = true ↔
      a.motion.kind = .bounded ∧ a.inputActive (stopInput stop) = true ∧
        stopOnSide stop a.v a.homingGoal = true := by
  rw [Axis.homingMeetsStop, Bool.and_eq_true, Bool.and_eq_true, decide_eq_true_eq, and_assoc]

/-- The tests that fail a homing turn: the travel limit, then the two end stops. -/
def Axis.homingFails (a : Axis) : Bool :=
  a.travelExceeded || a.homingMeetsStop .limPos || a.homingMeetsStop .limNeg

theorem Axis.homingFails_iff (a : Axis) :
    a.homingFails = true ↔
      ((a.homing.phase = .backOff ∨ a.homing.phase = .seekSwitch ∨ a.homing.phase = .seekIndex) ∧
          a.sense.travelLimit < (a.c - a.homing.start).natAbs) ∨
        (a.motion.kind = .bounded ∧
          (a.inputActive .limPos = true ∧ (0 < a.v ∨ 0 < a.homingGoal) ∨
            a.inputActive .limNeg = true ∧ (a.v < 0 ∨ a.homingGoal < 0))) := by
  rw [Axis.homingFails, Bool.or_eq_true, Bool.or_eq_true, Axis.travelExceeded_iff,
    Axis.homingMeetsStop_iff, Axis.homingMeetsStop_iff, or_assoc, ← and_or_left]
  simp [stopInput, stopOnSide]

theorem homingTurn_of_fails {i : AxisIdx} {s : State} (h : (s.axis i).homingFails = true) :
    homingTurn i s = handOver i 0 (faultAxis i .homeFail s) :=
  if_pos h

/-! ### The motion of a homing turn (R90, R115) -/

/-- The axis after the homing command, or after the stand for a stop taken before the turn (log 27). -/
def Axis.homingStep (a : Axis) : Axis := if a.standsStill then { a with lag := false } else a.homingMove

/-- The count that the turn hands over with it. -/
def Axis.homingCount (a : Axis) : Int := if a.standsStill then 0 else stepCount a a.homingMove

/-- The axis with its motion made and its count handed over. -/
def Axis.homingTurned (a : Axis) : Axis :=
  { a.homingStep with output := a.output.handOver a.motion.parkMode a.homingCount }

/-- A turn that does not fail makes its motion, hands its count over, and makes the completion test. -/
theorem homingTurn_of_passes {i : AxisIdx} {s : State} (h : (s.axis i).homingFails = false) :
    homingTurn i s = s.setAxis i (s.axis i).homingTurned.testCompletion := by
  refine (if_neg (by rw [← Axis.homingFails, h]; exact Bool.false_ne_true)).trans ?_
  simp only [handOver, State.onAxis, State.axis_setAxis_same, setAxis_setAxis, Axis.homingTurned,
    Axis.homingStep, Axis.homingCount]
  split_ifs <;> rfl

/-- The homing command as R115 and R82 write it. -/
theorem Axis.homingMove_eq (a : Axis) {v : Int}
    (hv : v = a.v + max (-(a.motion.amax : Int)) (min a.motion.amax (a.homingGoal - a.v))) :
    a.homingMove =
      { a with
        c := max (-2 ^ 63) (min (2 ^ 63 - 1) (a.c + v))
        v := max (-2 ^ 63) (min (2 ^ 63 - 1) (a.c + v)) - a.c
        lag := false : Axis }.takeUpLash := by
  rw [Axis.homingMove, Axis.drive, approach_eq, ← hv, sat64_eq_max_min]

/-- The motion changes C, v, Lp, the last direction and the LAG flag alone. -/
theorem Axis.homingStep_frame (a : Axis) :
    ∃ c v lp lastDir, a.homingStep = { a with c, v, lp, lastDir, lag := false } := by
  unfold Axis.homingStep
  split_ifs <;> exact ⟨_, _, _, _, rfl⟩

theorem Axis.standsStill_iff (a : Axis) :
    a.standsStill = true ↔ a.stopTaken = true ∧ Config.stopHoldsTurn = true := by
  rw [Axis.standsStill, Bool.and_eq_true]

/-- The axis and the count of a turn by the two cases of log 27. -/
theorem Axis.eq_homingStep_homingCount {a b moved : Axis} {n : Int} (hmoved : a.homingMove = moved)
    (hmoves : a.stopTaken = false ∨ Config.stopHoldsTurn = false → b = moved ∧ n = stepCount a b)
    (hstands : a.stopTaken = true → Config.stopHoldsTurn = true → b = { a with lag := false } ∧ n = 0) :
    b = a.homingStep ∧ n = a.homingCount := by
  unfold Axis.homingStep Axis.homingCount
  split_ifs with h
  · obtain ⟨hstop, hholds⟩ := a.standsStill_iff.1 h
    exact hstands hstop hholds
  · have hfree : a.stopTaken = false ∨ Config.stopHoldsTurn = false := by
      rw [Axis.standsStill_iff, not_and_or] at h
      simpa using h
    obtain ⟨rfl, hn⟩ := hmoves hfree
    rw [hmoved]
    exact ⟨rfl, hn⟩

/-! ### Homing completion (R119) -/

theorem Axis.homingTurned_testCompletion (a : Axis) :
    a.homingTurned.testCompletion =
      if a.homing.phase = .stopping ∧ a.homingStep.v = 0 then a.homingTurned.completeHoming
      else a.homingTurned := by
  obtain ⟨c, v, lp, lastDir, hframe⟩ := a.homingStep_frame
  rw [Axis.testCompletion, Axis.homingTurned, hframe]

/-- A target of a homed axis: taken as given on a WRAPPING axis, and within the soft limits of a BOUNDED
one (R37). -/
theorem Axis.giveTarget_of_homed {a : Axis} (hhomed : a.homed = true) (x : Int) :
    ∃ m clamped, a.giveTarget x = { a with m, clamped } ∧
      (a.motion.kind = .wrapping → m = x ∧ clamped = a.clamped) ∧
      (a.motion.kind = .bounded → a.motion.softMin ≤ x → x ≤ a.motion.softMax →
        m = x ∧ clamped = false) := by
  refine ⟨_, _, a.giveTarget_frame x, fun hkind => ?_, fun hkind hlow hhigh => ?_⟩
  · rw [Axis.giveTarget_of_free (.inl hkind)]
    exact ⟨rfl, rfl⟩
  · rw [Axis.giveTarget_eq (hlow.trans hhigh)]
    simp [hkind, hhomed, hlow, hhigh]

/-- The axis homed: C counted from the reference `c`, and the encoder tied to it. -/
def Axis.countedFrom (c : Int) (a : Axis) : Axis :=
  { a with
    c := max (-2 ^ 63) (min (2 ^ 63 - 1) (a.sense.homeOffset + (a.c - c)))
    encoder :=
      if a.sense.encoderMode = .none then a.encoder
      else
        { a.encoder with
          offset :=
            max (-2 ^ 63) (min (2 ^ 63 - 1)
              (max (-2 ^ 63) (min (2 ^ 63 - 1) (a.sense.homeOffset + (a.c - c))) -
                Int.fdiv (a.encoder.count * a.motion.steps) a.sense.counts)) }
    homed := true }

/-- A completed homing: the axis counted from its reference, the home offset given to M, and the homing
record closed. -/
theorem Axis.completeHoming_eq {a : Axis} {c point : Int} (hreference : a.homing.reference = some c)
    (hpoint : a.homing.switchPoint = some point) :
    ∃ m clamped,
      a.completeHoming =
        { a.countedFrom c with
          m, clamped
          homing :=
            { a.homing with
              phase := .none, paused := false, lastEnd := some (.completed, .stopping)
              distance := some (c - point) }
          state := .ready } ∧
      (a.motion.kind = .wrapping → m = a.sense.homeOffset ∧ clamped = a.clamped) ∧
      (a.motion.kind = .bounded → a.motion.softMin ≤ a.sense.homeOffset →
        a.sense.homeOffset ≤ a.motion.softMax → m = a.sense.homeOffset ∧ clamped = false) := by
  obtain ⟨m, clamped, htarget, hkinds⟩ :=
    Axis.giveTarget_of_homed (a := a.countedFrom c) rfl a.sense.homeOffset
  refine ⟨m, clamped, ?_, hkinds⟩
  simp only [Axis.countedFrom, ← sat64_eq_max_min] at htarget ⊢
  simp only [Axis.completeHoming, Axis.overrun, hreference, hpoint, Option.getD_some, Option.bind_some,
    Option.map_some, Axis.tieEncoder_eq, ← sat64_eq_max_min, htarget]

/-! ### The statement -/

/-- Settles O23: the failures, then the motion or the stand of log 27, then the completion test. -/
theorem homingTurnFailsMovesOrCompletes : Obligations.HomingTurnFailsMovesOrCompletes := by
  rintro i s a h g v rfl hh hg hv fails hfails
  obtain rfl : (s.axis i).homingGoal = g := (Axis.homingGoal_eq hh).trans hg.symm
  rw [← Axis.homingFails_iff] at hfails
  refine ⟨fun hf => homingTurn_of_fails (hfails.1 hf), fun hpass b n hmoves hstands => ?_⟩
  obtain ⟨rfl, rfl⟩ := Axis.eq_homingStep_homingCount (Axis.homingMove_eq _ hv) hmoves hstands
  rw [homingTurn_of_passes (Bool.eq_false_iff.2 (mt hfails.2 hpass)), Axis.homingTurned_testCompletion]
  refine ⟨fun hopen => by rw [if_neg (not_and_or.2 hopen), Axis.homingTurned],
    fun hphase hrest c point hreference hpoint => ?_⟩
  rw [if_pos ⟨hphase, hrest⟩, Axis.homingTurned]
  obtain ⟨c', v', lp, lastDir, hframe⟩ := (s.axis i).homingStep_frame
  rw [hframe]
  obtain ⟨m, clamped, hcomplete, hwrapping, hbounded⟩ := Axis.completeHoming_eq
    (a := { s.axis i with
      c := c', v := v', lp, lastDir, lag := false
      output := (s.axis i).output.handOver (s.axis i).motion.parkMode (s.axis i).homingCount })
    hreference hpoint
  exact ⟨_, congrArg (s.setAxis i) hcomplete, rfl, fun hmode => if_pos hmode,
    fun hmode => if_neg hmode, rfl, rfl, hwrapping, hbounded, rfl, rfl⟩

end Sys2Proof.Machine
end

section
/-! Encoder transitions (spec/08), and the statement about them (O33). -/

namespace Sys2Proof.Machine

/-! ### The count of one transition (R130, R131) -/

/-- What a transition counts in a mode, of what it counts in X4, X2 and X1. -/
def EncoderMode.choose (x4 x2 x1 : Int) : EncoderMode → Int
  | .none => 0
  | .x1 => x1
  | .x2 => x2
  | .x4 => x4

/-- The transitions of a single line as R130 lists them: the old and the new pair state, and the count in
X4, X2 and X1. Forward along the cycle first, then backward. -/
def edgeRows : List ((Level × Level) × (Level × Level) × Int × Int × Int) :=
  [((.low, .low), (.high, .low), 1, 1, 1), ((.high, .low), (.high, .high), 1, 0, 0),
    ((.high, .high), (.low, .high), 1, 1, 0), ((.low, .high), (.low, .low), 1, 0, 0),
    ((.high, .low), (.low, .low), -1, -1, -1), ((.high, .high), (.high, .low), -1, 0, 0),
    ((.low, .high), (.high, .high), -1, -1, 0), ((.low, .low), (.low, .high), -1, 0, 0)]

theorem edgeCount_of_mem_edgeRows {old new : Level × Level} {x4 x2 x1 : Int} (mode : EncoderMode)
    (h : (old, new, x4, x2, x1) ∈ edgeRows) : edgeCount mode old new = mode.choose x4 x2 x1 := by
  have hrows : ∀ r ∈ edgeRows,
      edgeCount mode r.1 r.2.1 = mode.choose r.2.2.1 r.2.2.2.1 r.2.2.2.2 := by
    cases mode <;> decide
  exact hrows _ h

/-- A step of zero or of two places along the cycle is no turn. -/
theorem edgeCount_of_even_step {old new : Level × Level} (mode : EncoderMode)
    (h : (cyclePlace new + 4 - cyclePlace old) % 4 = 0 ∨ (cyclePlace new + 4 - cyclePlace old) % 4 = 2) :
    edgeCount mode old new = 0 := by
  obtain h | h := h <;> cases mode <;> simp [edgeCount, h]

theorem edgeCount_self (mode : EncoderMode) (pair : Level × Level) : edgeCount mode pair pair = 0 :=
  edgeCount_of_even_step mode (.inl (by omega))

theorem Level.cases_of_ne {x y : Level} (h : x ≠ y) : x = .low ∧ y = .high ∨ x = .high ∧ y = .low := by
  cases x <;> cases y <;> simp at h ⊢

/-- The pair state with both lines changed lies two places further along the cycle. -/
theorem edgeCount_of_glitch {old new : Level × Level} (mode : EncoderMode) (hA : old.1 ≠ new.1)
    (hB : old.2 ≠ new.2) : edgeCount mode old new = 0 := by
  refine edgeCount_of_even_step mode (.inr ?_)
  obtain ⟨a, b⟩ := old
  obtain ⟨x, y⟩ := new
  obtain ⟨rfl, rfl⟩ | ⟨rfl, rfl⟩ := Level.cases_of_ne hA <;>
    obtain ⟨rfl, rfl⟩ | ⟨rfl, rfl⟩ := Level.cases_of_ne hB <;> rfl

theorem EncoderMode.choose_zero (mode : EncoderMode) : mode.choose 0 0 0 = 0 := by
  cases mode <;> rfl

/-! ### A pair state seen (R130 to R132) -/

theorem Axis.seePair_of_unseen {a : Axis} (h : a.encoder.pair = none) (new : Level × Level) :
    a.seePair new = { a with encoder := { a.encoder with pair := some new } } := by
  rw [Axis.seePair, h]

theorem isGlitch_iff (old new : Level × Level) :
    isGlitch old new = true ↔ old.1 ≠ new.1 ∧ old.2 ≠ new.2 := by
  rw [isGlitch, Bool.and_eq_true, decide_eq_true_eq, decide_eq_true_eq]

theorem Axis.seePair_of_seen {a : Axis} {old : Level × Level} (h : a.encoder.pair = some old)
    (new : Level × Level) {d : Int} (hd : edgeCount a.sense.encoderMode old new = d) :
    a.seePair new =
      { a with
        encoder :=
          { a.encoder with
            pair := some new
            count :=
              max (-2 ^ 63) (min (2 ^ 63 - 1) (a.encoder.count + if a.sense.invert then -d else d))
            glitches :=
              if old.1 ≠ new.1 ∧ old.2 ≠ new.2 ∧ a.sense.encoderMode ≠ .none then
                min 255 (a.encoder.glitches + 1)
              else a.encoder.glitches } } := by
  simp only [Axis.seePair, h, hd, sat64_eq_max_min, isGlitch_iff, and_assoc, countUp]

/-! ### The statement -/

/-- Settles O33: a transition of one line counts by its row in R130, any other one nothing. -/
theorem encoderTransitionsCountEdges : Obligations.EncoderTransitionsCountEdges := by
  rintro i x y s a hp rfl
  have hexec : exec (.encoderTransition i x y) s = .next (s.onAxis i (Axis.seePair (x, y))) :=
    whenOn_of_on hp _
  rw [hexec, State.onAxis]
  refine ⟨fun hpair => by rw [Axis.seePair_of_unseen hpair], ?_⟩
  rintro old x4 x2 x1 d hpair hrow hd
  have hcount : edgeCount (s.axis i).sense.encoderMode old (x, y) = d := by
    refine Eq.trans ?_ hd.symm
    obtain hrow | ⟨rfl, rfl, rfl, rfl | ⟨hA, hB⟩⟩ := hrow
    · exact edgeCount_of_mem_edgeRows _ hrow
    · exact (edgeCount_self _ _).trans (EncoderMode.choose_zero _).symm
    · exact (edgeCount_of_glitch _ hA hB).trans (EncoderMode.choose_zero _).symm
  rw [Axis.seePair_of_seen hpair (x, y) hcount]

end Sys2Proof.Machine
end

section
/-! Step Outputs (spec/09): what a pulse's begin, its end and a handed count do, and the statement about them
(O36). -/

namespace Sys2Proof.Machine

/-! ### Begin of a pulse (R143) -/

theorem Output.pulseBegin_of_due {o : Output} {w : Window} (hwindow : o.window = some w)
    (hstarted : w.started = true) (hdue : w.begun < w.count) (hstep : o.step = false) :
    o.pulseBegin = { o with window := some { w with begun := w.begun + 1 }, step := true } := by
  rw [Output.pulseBegin, hwindow]
  exact if_pos ⟨hstarted, hdue, hstep⟩

/-- No pulse begins within another one, nor without a started window that has pulses left. -/
theorem Output.pulseBegin_of_not_due {o : Output}
    (h : o.step = true ∨ ∀ w, o.window = some w → w.started = false ∨ w.count ≤ w.begun) :
    o.pulseBegin = o := by
  unfold Output.pulseBegin
  split
  next w hwindow =>
    refine if_neg fun ⟨hstarted, hdue, hstep⟩ => ?_
    obtain hstep' | hnone := h
    · simp [hstep] at hstep'
    · obtain hwaits | hlast := hnone w hwindow
      · simp [hstarted] at hwaits
      · exact hdue.not_ge hlast
  next => rfl

/-! ### A window settled (R145, R146) -/

/-- The window in hand goes, and a park that waited for it takes its levels. -/
theorem Output.settle_eq (mode : ParkMode) (o : Output) :
    o.settle mode =
      if o.parkPending then
        { o with
          window := none, parkPending := false, enable := decide (mode = .holdTorque)
          brake := decide (mode = .brake) }
      else { o with window := none } := by
  simp only [Output.settle, applyPark_eq]

/-! ### End of a pulse (R143, R144, R146) -/

section

variable {o : Output} {mode : ParkMode} {w : Window}

theorem Output.pulseEnd_of_inactive (hstep : o.step = false) : o.pulseEnd mode = o := if_pos hstep

theorem Output.pulseEnd_of_no_window (hstep : o.step = true) (hwindow : o.window = none) :
    o.pulseEnd mode = { o with step := false } := by
  simp [Output.pulseEnd, hstep, hwindow]

/-- A window that waited for the end of the pulse starts, and DIR takes its sense. -/
theorem Output.pulseEnd_of_waiting (hstep : o.step = true) (hwindow : o.window = some w)
    (hwaits : w.started = false) :
    o.pulseEnd mode =
      { o with step := false, window := some { w with started := true }, dir := w.sense } := by
  simp [Output.pulseEnd, hstep, hwindow, hwaits]

theorem Output.pulseEnd_of_pulses_left (hstep : o.step = true) (hwindow : o.window = some w)
    (hstarted : w.started = true) (hleft : w.begun < w.count) :
    o.pulseEnd mode = { o with step := false } := by
  simp [Output.pulseEnd, hstep, hwindow, hstarted, hleft]

/-- The end of its last pulse settles a window. -/
theorem Output.pulseEnd_of_last (hstep : o.step = true) (hwindow : o.window = some w)
    (hstarted : w.started = true) (hlast : w.count ≤ w.begun) :
    o.pulseEnd mode = { o with step := false }.settle mode := by
  simp [Output.pulseEnd, hstep, hwindow, hstarted, hlast.not_gt]

end

/-! ### The pulse events of an axis -/

section

variable {s : State} {i : AxisIdx} {o : Output}

theorem exec_stepPulseBegin (hp : s.power = .on) (ho : (s.axis i).output.pulseBegin = o) :
    exec (.stepPulseBegin i) s = .next (s.setAxis i { s.axis i with output := o }) :=
  ho ▸ whenOn_of_on hp _

theorem exec_stepPulseEnd (hp : s.power = .on)
    (ho : (s.axis i).output.pulseEnd (s.axis i).motion.parkMode = o) :
    exec (.stepPulseEnd i) s = .next (s.setAxis i { s.axis i with output := o }) :=
  ho ▸ whenOn_of_on hp _

end

/-- Step Outputs put back as they stand. -/
theorem State.setAxis_same_output (s : State) (i : AxisIdx) :
    s.setAxis i { s.axis i with output := (s.axis i).output } = s := s.setAxis_axis i

/-! ### A count handed over (R143 to R146) -/

/-- The window in hand is settled; a count that is not 0 then opens its own, by the STEP level of before. -/
theorem Output.handOver_eq {mode : ParkMode} {o settled : Output} (h : o.settle mode = settled) (n : Int) :
    o.handOver mode n =
      if n = 0 then settled
      else
        { settled with
          window := some
            { sense := if n < 0 then .negative else .positive
              count := n.natAbs, started := !o.step, begun := 0 }
          dir := if o.step then o.dir else if n < 0 then .negative else .positive } := by
  subst h
  obtain ⟨hstep, hdir⟩ : (o.settle mode).step = o.step ∧ (o.settle mode).dir = o.dir := by
    rw [Output.settle_eq]
    split <;> exact ⟨rfl, rfl⟩
  simp only [Output.handOver, Output.openWindow, senseOf, hstep, hdir]

/-! ### The statement -/

/-- Settles O36: each event by the window in hand, then the settling of a handover and the window it opens. -/
theorem stepPulsesFollowTheWindow : Obligations.StepPulsesFollowTheWindow := by
  refine ⟨?_, fun mode n o settled hsettled =>
    Output.handOver_eq ((Output.settle_eq mode o).trans hsettled.symm) n⟩
  rintro i s a hp rfl
  refine ⟨fun w hwindow hstarted hdue hstep =>
      exec_stepPulseBegin hp (Output.pulseBegin_of_due hwindow hstarted hdue hstep),
    fun h => ?_, fun hstep => ?_, fun hstep => ⟨?_, ?_, ?_⟩⟩
  · exact (exec_stepPulseBegin hp (Output.pulseBegin_of_not_due h)).trans
      (congrArg _ (s.setAxis_same_output i))
  · exact (exec_stepPulseEnd hp (Output.pulseEnd_of_inactive hstep)).trans
      (congrArg _ (s.setAxis_same_output i))
  · rintro (hnone | ⟨w, hwindow, hstarted, hleft⟩)
    · exact exec_stepPulseEnd hp (Output.pulseEnd_of_no_window hstep hnone)
    · exact exec_stepPulseEnd hp (Output.pulseEnd_of_pulses_left hstep hwindow hstarted hleft)
  · exact fun w hwindow hwaits =>
      exec_stepPulseEnd hp (Output.pulseEnd_of_waiting hstep hwindow hwaits)
  · exact fun w hwindow hstarted hlast =>
      exec_stepPulseEnd hp ((Output.pulseEnd_of_last hstep hwindow hstarted hlast).trans
        (Output.settle_eq _ _))

end Sys2Proof.Machine
end

section
/-! The Cue Queue's requests (spec/10): the payload sizes of the cueable kinds, CUE and CUE_CANCEL, and the
statement about them (O37). -/

namespace Sys2Proof.Machine

/-! ### Payload sizes (R165, R177) -/

/-- A field of `n` bytes is read from every payload that has so many, and leaves the bytes after them. -/
def ReadsField {α : Type} (n : Nat) (f : List Byte → Option (α × List Byte)) : Prop :=
  ∀ p, if n ≤ p.length then ∃ x, f p = some (x, p.drop n) else f p = none

/-- A payload is read where its size is one of `sizes`, and nowhere else. -/
def ReadsSizes {α : Type} (sizes : List Nat) (f : List Byte → Option α) : Prop :=
  ∀ p, f p = none ↔ p.length ∉ sizes

theorem readsField_read8 : ReadsField 1 read8
  | [] => rfl
  | _ :: _ => ⟨_, rfl⟩

theorem readsField_read16 : ReadsField 2 read16
  | [] | [_] => rfl
  | a :: b :: _ => ⟨a ++ b, rfl⟩

/-- Two fields, one after the other. -/
theorem ReadsField.bind {α β γ : Type} {m n : Nat} {f : List Byte → Option (α × List Byte)}
    {g : List Byte → Option (β × List Byte)} (hf : ReadsField m f) (hg : ReadsField n g) (k : α → β → γ) :
    ReadsField (m + n) (fun p => do
      let (x, p) ← f p
      let (y, p) ← g p
      some (k x y, p)) := by
  intro p
  have hf := hf p
  split_ifs at hf with hm
  · obtain ⟨x, hx⟩ := hf
    have hg := hg (p.drop m)
    simp only [List.length_drop] at hg
    split_ifs at hg with hn
    · obtain ⟨y, hy⟩ := hg
      rw [if_pos (by omega)]
      exact ⟨k x y, by simp [hx, hy, List.drop_drop]⟩
    · rw [if_neg (by omega)]
      simp [hx, hg]
  · rw [if_neg (by omega)]
    simp [hf]

theorem readsField_read32 : ReadsField 4 read32 :=
  readsField_read16.bind readsField_read16 (· ++ ·)

theorem readsField_read64 : ReadsField 8 read64 :=
  readsField_read32.bind readsField_read32 (· ++ ·)

theorem readsSizes_readEnd {α : Type} (x : α) : ReadsSizes [0] (readEnd x)
  | [] => by simp [readEnd]
  | _ :: _ => by simp [readEnd]

/-- A field before the rest of a payload. -/
theorem ReadsSizes.field {α β : Type} {n : Nat} {sizes total : List Nat}
    {f : List Byte → Option (α × List Byte)} {g : α → List Byte → Option β} (hf : ReadsField n f)
    (hg : ∀ x, ReadsSizes sizes (g x)) (htotal : sizes.map (n + ·) = total := by rfl) :
    ReadsSizes total (fun p => do
      let (x, p) ← f p
      g x p) := by
  intro p
  subst htotal
  have hf := hf p
  split_ifs at hf with hn
  · obtain ⟨x, hx⟩ := hf
    have hmem : p.length ∈ sizes.map (n + ·) ↔ (p.drop n).length ∈ sizes := by
      rw [List.length_drop, List.mem_map]
      refine ⟨?_, fun h => ⟨_, h, by omega⟩⟩
      rintro ⟨k, hk, hsum⟩
      rwa [← hsum, Nat.add_sub_cancel_left]
    rw [hmem, ← hg x]
    simp [hx]
  · have hmem : p.length ∉ sizes.map (n + ·) := by
      rw [List.mem_map]
      rintro ⟨k, -, hsum⟩
      omega
    simp [hf, hmem]

theorem readsSizes_decode8 : ReadsSizes [1] decode8 :=
  .field readsField_read8 fun _ => readsSizes_readEnd _

theorem readsSizes_decode64 : ReadsSizes [8] decode64 :=
  .field readsField_read64 fun _ => readsSizes_readEnd _

theorem readsSizes_decodeSkyRate : ReadsSizes [10] decodeSkyRate :=
  .field readsField_read64 fun _ => .field readsField_read16 fun _ => readsSizes_readEnd _

theorem readsSizes_decodeMove : ReadsSizes [17] decodeMove :=
  .field readsField_read8 fun axis => .field readsField_read64 fun position =>
    .field readsField_read64 fun arrival => readsSizes_readEnd (axis, position, arrival)

/-- The sizes of the four layouts of a law (R177). -/
theorem readsSizes_decodeLawBody : ReadsSizes [0, 9, 17, 24] decodeLawBody := by
  intro p
  unfold decodeLawBody
  split
  case h_1 hp => simp [hp]
  case h_2 hp =>
    refine ((ReadsSizes.field (total := [9]) readsField_read8 fun id => .field readsField_read64 fun offset =>
      readsSizes_readEnd (LawBody.table id offset)) p).trans ?_
    simp [hp]
  case h_3 hp =>
    refine ((ReadsSizes.field (total := [17]) readsField_read8 fun source =>
      .field readsField_read32 fun numerator => .field readsField_read32 fun denominator =>
      .field readsField_read64 fun phase =>
        readsSizes_readEnd (LawBody.coupled source numerator denominator phase)) p).trans ?_
    simp [hp]
  case h_4 hp =>
    refine ((ReadsSizes.field (total := [24]) readsField_read64 fun phase =>
      .field readsField_read64 fun rate => .field readsField_read64 fun epoch =>
        readsSizes_readEnd (LawBody.linear phase rate epoch)) p).trans ?_
    simp [hp]
  case h_5 h₀ h₉ h₁₇ h₂₄ =>
    simp only [List.mem_cons, List.not_mem_nil, or_false, not_or, true_iff]
    exact ⟨h₀, h₉, h₁₇, h₂₄⟩

/-- A payload whose last field takes what is left. -/
theorem ReadsSizes.bind {α β : Type} {sizes : List Nat} {f : List Byte → Option α} (h : ReadsSizes sizes f)
    (g : α → β) : ReadsSizes sizes (fun p => do
      let x ← f p
      some (g x)) := fun p => by
  rw [← h p]
  show (f p).bind (fun x => some (g x)) = none ↔ f p = none
  cases f p <;> simp

theorem readsSizes_decodeAxisLaw : ReadsSizes [2, 11, 19, 26] decodeAxisLaw :=
  .field readsField_read8 fun axis => .field readsField_read8 fun kind =>
    .bind readsSizes_decodeLawBody (axis, kind, ·)

/-! ### The cueable kinds (R151) -/

theorem cueableKind_iff (kind : Byte) :
    cueableKind kind = true ↔ kind.toNat ∈
      [0x03, 0x04, 0x05, 0x06, 0x07, 0x12, 0x13, 0x14, 0x16, 0x17, 0x18, 0x19] :=
  List.contains_iff_mem

/-- A cueable payload is read where its size is the kind's (R165, R177). -/
theorem decodeCueRequest_eq_none_iff {kind : Byte} (h : cueableKind kind = true) (payload : List Byte) :
    decodeCueRequest kind payload = none ↔ sizeOf kind.toNat payload.length = false := by
  rw [cueableKind_iff] at h
  unfold decodeCueRequest
  generalize kind.toNat = k at h
  simp only [List.mem_cons, List.not_mem_nil, or_false] at h
  rcases h with rfl | rfl | rfl | rfl | rfl | rfl | rfl | rfl | rfl | rfl | rfl | rfl
  all_goals
    simp [sizeOf, readsSizes_decode8 payload, readsSizes_decode64 payload, readsSizes_decodeSkyRate payload,
      readsSizes_decodeMove payload, readsSizes_decodeAxisLaw payload,
      fun r : CueRequest => readsSizes_readEnd r payload]

/-! ### Firing order (R152) -/

/-- A record joins after every record at or before its time, in firing order. -/
theorem insertCue_eq (c : CueRecord) (l : List CueRecord) :
    insertCue c l =
      l.takeWhile (fun d => decide (d.time ≤ c.time)) ++
        c :: l.dropWhile (fun d => decide (d.time ≤ c.time)) := by
  induction l with
  | nil => rfl
  | cons d rest ih =>
    by_cases h : d.time ≤ c.time
    · simp [insertCue, h, ih]
    · simp [insertCue, h]

/-! ### CUE and CUE_CANCEL (R151, R157) -/

section
variable {o : Origin} {s : State} {time : BitVec 64} {tag kind : Byte} {payload : List Byte} {x : Result}

theorem exec_cue (ht : Takes o s) (hx : doCue time tag kind payload s = x) :
    exec (.cue o time tag kind payload) s = .next (answered o 0x20 x) :=
  congrArg _ ((arrive_of_takes ht (.cue time tag kind payload) fun _ => rfl).trans (hx ▸ rfl))

theorem doCue_of_not_cueable (h : cueableKind kind = false) :
    doCue time tag kind payload s = answerRefused .notCueable s := by
  simp [doCue, h]

theorem doCue_of_unread (h : cueableKind kind = true) (hr : decodeCueRequest kind payload = none) :
    doCue time tag kind payload s = answerRefused .badLength s := by
  simp [doCue, h, hr]

/-- A cueable request of the right size: the queue is full, or its record joins in firing order. -/
theorem doCue_of_read {r : CueRequest} (h : cueableKind kind = true)
    (hr : decodeCueRequest kind payload = some r) :
    doCue time tag kind payload s =
      if cueCapacity ≤ s.cues.records.length then answerRefused .queueFull s
      else
        answerData [byteOf (s.cues.records.length + 1)]
          (s.setCues (insertCue { time := time.toInt, tag := tag, request := r } s.cues.records)) := by
  simp [doCue, h, hr]

theorem exec_cueCancel (ht : Takes o s) :
    exec (.cueCancel o tag) s = .next (answered o 0x21 (doCueCancel tag s)) :=
  congrArg _ (arrive_of_takes ht (.cueCancel tag) fun _ => rfl)

end

/-- Settles O37: the cueable kinds and their sizes, CUE by its checks, its record's place, and CUE_CANCEL. -/
theorem cuesJoinInFiringOrder : Obligations.CuesJoinInFiringOrder := by
  refine ⟨fun kind => ⟨cueableKind_iff kind, fun h payload =>
    ⟨decodeCueRequest_eq_none_iff h payload, fun r => decodeCueRequest_kind⟩⟩, ?_⟩
  intro o s time tag kind payload ht
  refine ⟨fun h => exec_cue ht (doCue_of_not_cueable h), fun h hr => exec_cue ht (doCue_of_unread h hr),
    fun r h hr => ⟨fun hfull => exec_cue ht ?_, fun hroom => exec_cue ht ?_⟩, ?_⟩
  · rw [doCue_of_read h hr]
    exact if_pos hfull
  · rw [doCue_of_read h hr, insertCue_eq]
    exact if_neg (Nat.not_le.2 hroom)
  · rw [exec_cueCancel ht, doCueCancel, List.countP_eq_length_filter]
    rfl

end Sys2Proof.Machine
end

section
/-! The firing pass of a Lane Update (spec/10), and the statement about it (O14). -/

namespace Sys2Proof.Machine

/-! ### A step of the pass (R153) -/

/-- A head record that is due fires. -/
theorem passStep_of_due {w : UpdateWork} {s : State} {c : CueRecord} {rest : List CueRecord}
    (h : s.cues.records = c :: rest) (hdue : c.time ≤ w.update.showLane) :
    passStep w s = fireCue c (s.setCues rest) := by
  simp [passStep, cueDue, fireHead, h, hdue]

theorem noneDue_of_lt {t : Int} {s : State} {c : CueRecord} {rest : List CueRecord}
    (h : s.cues.records = c :: rest) (hlater : t < c.time) : NoneDue t s := fun d rest' hd => by
  cases h.symm.trans hd
  exact hlater

theorem noneDue_of_nil {t : Int} {s : State} (h : s.cues.records = []) : NoneDue t s := by
  simp [NoneDue, h]

/-- A pass that ends leaves the turns still to come. -/
theorem passStep_ends {w : UpdateWork} {s : State} (h : NoneDue w.update.showLane s) :
    passStep w s =
      { s with work := if w.turns = [] then none else some { w with firing := false } } := by
  rw [passStep_of_noneDue h, workLeft_not_firing]
  rfl

/-! ### A fired cue (R154, R155) -/

theorem ResultCode.accepted_iff (x : ResultCode) : x.accepted = true ↔ x = .done ∨ x = .doneClamped := by
  cases x <;> simp [ResultCode.accepted]

theorem fireCue_of_accepted {c : CueRecord} {s : State}
    (h : (performCueable c.request s).outcome.accepted = true) :
    fireCue c s = (performCueable c.request s).state := if_pos h

/-- A refused cue changes nothing but the record of its failure. -/
theorem fireCue_of_refused {c : CueRecord} {s : State}
    (hdone : (performCueable c.request s).outcome ≠ .done)
    (hclamped : (performCueable c.request s).outcome ≠ .doneClamped) :
    fireCue c s = recordCueFailure c (performCueable c.request s).outcome s := by
  obtain ⟨hstate, -⟩ := (carriedOrRefused_performCueable c.request).eq_of_refused hdone hclamped
  have hrefused : ¬(performCueable c.request s).outcome.accepted = true := by
    rw [ResultCode.accepted_iff]
    exact not_or.2 ⟨hdone, hclamped⟩
  exact (if_neg hrefused).trans (by rw [hstate])

/-! ### The cues the whole work leaves (R153, R158) -/

/-- What a firing pass at Show lane value `t` leaves of a queue: the records from the first that is not due. -/
def laterCues (t : Int) (l : List CueRecord) : List CueRecord := l.dropWhile (fun c => decide (c.time ≤ t))

theorem laterCues_cons_of_due {t : Int} {c : CueRecord} (h : c.time ≤ t) (rest : List CueRecord) :
    laterCues t (c :: rest) = laterCues t rest :=
  List.dropWhile_cons_of_pos (decide_eq_true h)

theorem NoneDue.laterCues {t : Int} {s : State} (h : NoneDue t s) :
    laterCues t s.cues.records = s.cues.records := by
  cases hr : s.cues.records with
  | nil => rfl
  | cons c rest => exact List.dropWhile_cons_of_neg (by simpa using h c rest hr)

/-- The records that will wait when the work in hand is done: its firing pass has still to take what is due. -/
def State.cuesLeft (s : State) : List CueRecord :=
  match s.work with
  | none => s.cues.records
  | some w => if w.firing then laterCues w.update.showLane s.cues.records else s.cues.records

theorem cuesLeft_of_none {s : State} (h : s.work = none) : s.cuesLeft = s.cues.records := by
  simp [State.cuesLeft, h]

theorem cuesLeft_of_firing {s : State} {w : UpdateWork} (h : s.work = some w) (hf : w.firing = true) :
    s.cuesLeft = laterCues w.update.showLane s.cues.records := by
  simp [State.cuesLeft, h, hf]

theorem cuesLeft_of_not_firing {s : State} {w : UpdateWork} (h : s.work = some w) (hf : w.firing = false) :
    s.cuesLeft = s.cues.records := by
  simp [State.cuesLeft, h, hf]

/-- With the pass at its end the queue is left as it stands. -/
theorem cuesLeft_of_pass_ended {s : State} {u : LaneUpdate} {turns : List AxisIdx}
    (h : s.work = workLeft u turns false) : s.cuesLeft = s.cues.records := by
  rw [workLeft_not_firing] at h
  split at h
  · exact cuesLeft_of_none h
  · exact cuesLeft_of_not_firing h rfl

theorem cuesLeft_passStep {s : State} {w : UpdateWork} (h : s.work = some w) (hf : w.firing = true) :
    (passStep w s).cuesLeft = s.cuesLeft := by
  rw [cuesLeft_of_firing h hf]
  by_cases hdue : NoneDue w.update.showLane s
  · rw [passStep_of_noneDue hdue, cuesLeft_of_pass_ended rfl, hdue.laterCues]
    rfl
  · obtain ⟨c, rest, hc, hle⟩ : ∃ c rest, s.cues.records = c :: rest ∧ c.time ≤ w.update.showLane := by
      simpa [NoneDue] using hdue
    have hfire := performs_fireCue c (s.setCues rest)
    rw [passStep_of_due hc hle, cuesLeft_of_firing (hfire.work.trans h) hf, hfire.records, hc,
      laterCues_cons_of_due hle]
    rfl

theorem cuesLeft_turnStep {s : State} {w : UpdateWork} (h : s.work = some w) (i : AxisIdx)
    (rest : List AxisIdx) : (turnStep w i rest s).cuesLeft = s.cuesLeft := by
  have haside := (axisWork_axisTurn w.update i).aside (s.setWork (workLeft w.update rest w.firing))
  have hrecords : (turnStep w i rest s).cues.records = s.cues.records := haside.records
  have hwork : (turnStep w i rest s).work = workLeft w.update rest w.firing := haside.work
  cases hf : w.firing with
  | false =>
    rw [hf] at hwork
    rw [cuesLeft_of_pass_ended hwork, cuesLeft_of_not_firing h hf, hrecords]
  | true =>
    rw [hf, workLeft_firing] at hwork
    rw [cuesLeft_of_firing hwork rfl, cuesLeft_of_firing h hf, hrecords]

/-- No step of the work changes which records will be left at its end, whatever the order of cues and turns. -/
theorem cuesLeft_workStep (s : State) : (workStep s).cuesLeft = s.cuesLeft := by
  rcases workStep_cases s with ⟨-, h⟩ | ⟨w, hw, ⟨-, hf, h⟩ | ⟨hf, h | h⟩ | ⟨i, rest, -, h | h⟩⟩ <;> rw [h]
  · rw [cuesLeft_of_not_firing hw hf]
    rfl
  · exact cuesLeft_passStep hw hf
  · exact cuesLeft_passStep (s := s.afterDraw) hw hf
  · exact cuesLeft_turnStep hw i rest
  · exact cuesLeft_turnStep (s := s.afterDraw) hw i rest

theorem cuesLeft_runWork (n : Nat) (s : State) : (runWork n s).cuesLeft = s.cuesLeft := by
  induction n generalizing s with
  | zero => rfl
  | succ n ih => exact (ih _).trans (cuesLeft_workStep s)

theorem finishWork_records (s : State) : (finishWork s).cues.records = s.cuesLeft :=
  (cuesLeft_of_none (finishWork_work s)).symm.trans (cuesLeft_runWork _ s)

/-- A Lane Update begins with the whole queue to fire from. -/
theorem cuesLeft_beginUpdate (s : State) :
    (beginUpdate s).cuesLeft = laterCues s.clock.settle.2.showLane s.cues.records := by
  obtain ⟨-, -, hcues, -⟩ := beginUpdate_rest s
  rw [cuesLeft_of_firing (s := beginUpdate s) rfl rfl, hcues]

/-- Settles O14: a step of the pass, the queue at the end of the whole work, and a fired request. -/
theorem dueCuesFire : Obligations.DueCuesFire := by
  refine ⟨fun s w c rest h => ⟨fun hdue => passStep_of_due h hdue,
      fun hlater => passStep_ends (noneDue_of_lt h hlater)⟩,
    fun s w h => passStep_ends (noneDue_of_nil h), fun s w h hf ht => ?_, fun s t hp hw h => ?_,
    fun o r s => rfl, fun c s => ⟨fun hdone => fireCue_of_accepted ((ResultCode.accepted_iff _).2 hdone),
      fireCue_of_refused⟩⟩
  · rw [workStep_of_turns_nil h ht, if_pos hf]
  · rw [exec_laneUpdate hp, finishWork_none hw] at h
    cases h
    refine ⟨finishWork_work _, ?_⟩
    rw [finishWork_records, cuesLeft_runWork]
    exact cuesLeft_beginUpdate s

end Sys2Proof.Machine
end

section
/-! The queue of waiting commands (log 8): no operation of the model reads or writes it, and the statements
about the step and about every command (O1, O2). -/

namespace Sys2Proof.Machine

/-! ### Results -/

section
variable {s : State}

/-- A request to an axis keeps the queue where its owner does on every axis. -/
theorem onAxisIndex_pending (axis : Byte) {f : AxisIdx → Result}
    (h : ∀ i, (f i).state.pending = s.pending) : (onAxisIndex axis s f).state.pending = s.pending := by
  rcases onAxisIndex_cases axis s f with hbad | ⟨i, hi⟩
  · rw [hbad]
    rfl
  · rw [hi, h i]

/-- A fold of operations that each keep the queue keeps it. -/
theorem foldl_pending {α : Type} {f : State → α → State} (hf : ∀ s x, (f s x).pending = s.pending)
    (l : List α) (s : State) : (l.foldl f s).pending = s.pending := by
  induction l generalizing s with
  | nil => rfl
  | cons x rest ih => exact (ih _).trans (hf s x)

end

section
variable (s : State)

/-! ### The Table Port -/

@[simp] theorem raiseSuspend_pending : (raiseSuspend s).pending = s.pending := by
  rcases raiseSuspend_cases s with h | h <;> rw [h]
  rfl

@[simp] theorem resumeIfIdle_pending : (resumeIfIdle s).pending = s.pending := by
  rcases resumeIfIdle_cases s with h | ⟨-, -, -, h⟩ <;> rw [h]
  rfl

@[simp] theorem countStall_pending (i : AxisIdx) : (countStall s i).pending = s.pending := by
  rcases countStall_cases s i with h | h <;> rw [h]
  rfl

@[simp] theorem countStalls_pending : (countStalls s).pending = s.pending := by
  unfold countStalls
  split
  · exact foldl_pending countStall_pending _ s
  · rfl

@[simp] theorem grantRead_pending : (grantRead s).pending = s.pending := by
  rcases grantRead_cases s with h | ⟨r, -, -, -, h⟩ <;> rw [h]
  rfl

@[simp] theorem postRead_pending (i : AxisIdx) : (postRead i s).pending = s.pending := by
  rcases postRead_cases i s with ⟨-, h⟩ | ⟨-, h | h⟩ <;> rw [h]
  · exact grantRead_pending s
  · exact countStall_pending s i
  · exact raiseSuspend_pending s

@[simp] theorem completeRead_pending : (completeRead s).pending = s.pending := by
  unfold completeRead
  split
  · rfl
  · dsimp only
    rw [grantRead_pending, resumeIfIdle_pending]
    split
    · exact postRead_pending _ _
    · rfl

/-! ### The Rewrite Engine -/

@[simp] theorem stopPhase_pending : (stopPhase s).pending = s.pending := by
  rcases stopPhase_cases s with h | ⟨r, -, -, h⟩ <;> rw [h]
  rfl

@[simp] theorem endRewrite_pending (outcome : RewriteOutcome) (record : SegmentRecord) (image : SegmentImage)
    (r : Rewrite) : (endRewrite outcome record image r s).pending = s.pending :=
  grantRead_pending _

theorem suspendAcknowledge_pending : (suspendAcknowledge s).pending = s.pending := by
  unfold suspendAcknowledge
  split
  · rw [grantRead_pending, resumeIfIdle_pending]
    exact stopPhase_pending s
  · rfl

theorem eraseComplete_pending : (eraseComplete s).pending = s.pending := by
  unfold eraseComplete
  split
  · split
    · exact endRewrite_pending _ _ _ _ _
    · exact raiseSuspend_pending _
  · rfl

theorem programComplete_pending (verified : Bool) : (programComplete verified s).pending = s.pending := by
  unfold programComplete
  split
  · split
    · exact endRewrite_pending _ _ _ _ _
    · exact endRewrite_pending s.afterDraw _ _ _ _
  · rfl

theorem abortComplete_pending : (abortComplete s).pending = s.pending := by
  unfold abortComplete
  split
  · exact endRewrite_pending _ _ _ _ _
  · rfl

/-! ### Faults, holds and end stops -/

@[simp] theorem faultAxis_pending (i : AxisIdx) (cause : FaultCause) :
    (faultAxis i cause s).pending = s.pending :=
  resumeIfIdle_pending _

@[simp] theorem takeCause_pending (cause : FaultCause) (i : AxisIdx) :
    (takeCause cause i s).pending = s.pending := by
  unfold takeCause
  split
  · rfl
  · rfl
  all_goals exact faultAxis_pending s i cause

@[simp] theorem limitAxis_pending (i : AxisIdx) (stop : EndStop) :
    (limitAxis i stop s).pending = s.pending := rfl

@[simp] theorem handHold_pending (before : Bool) : (handHold before s).pending = s.pending := by
  unfold handHold
  split <;> rfl

/-! ### Sense Inputs -/

theorem sampleHold_pending (level : Level) : (sampleHold level s).pending = s.pending :=
  handHold_pending _ _

theorem sampleHalt_pending (level : Level) : (sampleHalt level s).pending = s.pending := by
  unfold sampleHalt
  dsimp only
  split
  · exact foldl_pending (fun s i => takeCause_pending s .halt i) allAxes _
  · rfl

theorem handLimit_pending (i : AxisIdx) (stop : EndStop) (active : Bool) :
    (handLimit i stop active s).pending = s.pending := by
  unfold handLimit
  split_ifs <;> simp

theorem handInput_pending (i : AxisIdx) (k : InputKind) (active : Bool) :
    (handInput i k active s).pending = s.pending := by
  cases k with
  | home =>
    show (handHome i active s).pending = s.pending
    unfold handHome
    split <;> rfl
  | limPos => exact handLimit_pending s i .limPos active
  | limNeg => exact handLimit_pending s i .limNeg active
  | drvFault =>
    show (handDrvFault i active s).pending = s.pending
    unfold handDrvFault
    split
    · exact takeCause_pending s .drive i
    · rfl

theorem sampleInput_pending (i : AxisIdx) (k : InputKind) (level : Level) :
    (sampleInput i k level s).pending = s.pending := by
  unfold sampleInput
  dsimp only
  split
  · rfl
  · exact handInput_pending _ i k _

theorem acceptInput_pending (i : AxisIdx) (k : InputKind) (level : Level) :
    (acceptInput i k level s).pending = s.pending := by
  unfold acceptInput
  split
  · exact sampleInput_pending s i k level
  · rfl

theorem sampleLine_pending (line : FilterLine) (level : Level) :
    (sampleLine line level s).pending = s.pending := by
  cases line with
  | axisInput axis input => exact sampleInput_pending s axis input level
  | holdLine => exact sampleHold_pending s level
  | haltLine => exact sampleHalt_pending s level

theorem seeIndex_pending (i : AxisIdx) (level : Level) : (seeIndex i level s).pending = s.pending := by
  unfold seeIndex indexEventTaken
  dsimp only
  split_ifs <;> rfl

/-! ### Requests -/

theorem doAxisLaw_pending (axis kind : Byte) (body : LawBody) :
    (doAxisLaw axis kind body s).state.pending = s.pending := by
  refine onAxisIndex_pending axis fun i => ?_
  split
  · rfl
  · split_ifs
    · rfl
    · rfl
    · exact resumeIfIdle_pending _

theorem doDisable_pending (axis : Byte) : (doDisable axis s).state.pending = s.pending := by
  refine onAxisIndex_pending axis fun i => ?_
  split
  · rfl
  · rfl
  all_goals exact resumeIfIdle_pending _

theorem performCueable_pending (r : CueRequest) : (performCueable r s).state.pending = s.pending := by
  cases r with
  | skySet | showSet | skyRate => rfl
  | hold | release => exact handHold_pending _ _
  | axisLaw axis kind body => exact doAxisLaw_pending s axis kind body
  | disable axis => exact doDisable_pending s axis
  | enable axis | track axis | stop axis => exact onAxisIndex_pending axis fun i => by split <;> rfl
  | move axis endPosition arrival => exact onAxisIndex_pending axis fun i => by split_ifs <;> rfl
  | flush axis => exact onAxisIndex_pending axis fun i => rfl

theorem doAxisMotionConfig_pending (axis : Byte) (f : MotionFields) :
    (doAxisMotionConfig axis f s).state.pending = s.pending := by
  refine onAxisIndex_pending axis fun i => ?_
  split
  · rfl
  · split <;> rfl

theorem handTurned_pending (before : Axis) (i : AxisIdx) (k : InputKind) :
    (handTurned before i s k).pending = s.pending := by
  unfold handTurned
  split
  · rfl
  · exact handInput_pending s i k _

theorem doAxisSenseConfig_pending (axis : Byte) (f : SenseFields) :
    (doAxisSenseConfig axis f s).state.pending = s.pending := by
  refine onAxisIndex_pending axis fun i => ?_
  split
  · rfl
  · split
    · rfl
    · exact foldl_pending (fun s k => handTurned_pending s _ i k) _ _

theorem doUnitSettings_pending (policy halts holdWindow haltWindow : Byte) :
    (doUnitSettings policy halts holdWindow haltWindow s).state.pending = s.pending := by
  unfold doUnitSettings
  split
  · exact raiseSuspend_pending _
  · rfl

theorem doCue_pending (time : BitVec 64) (tag kind : Byte) (payload : List Byte) :
    (doCue time tag kind payload s).state.pending = s.pending := by
  unfold doCue
  split
  · rfl
  · split
    · rfl
    · split <;> rfl

theorem doCommit_pending (segment : BitVec 16) (eraseOnly : Byte) :
    (doCommit segment eraseOnly s).state.pending = s.pending := by
  unfold doCommit
  split
  · rfl
  · exact (raiseSuspend_pending _).trans (countStalls_pending _)

theorem doAbortRewrite_pending : (doAbortRewrite s).state.pending = s.pending := by
  unfold doAbortRewrite
  dsimp only
  split
  · rfl
  · rfl
  · exact stopPhase_pending s
  · exact stopPhase_pending s
  all_goals exact (countStalls_pending _).trans (stopPhase_pending s)

theorem doAxisQuery_pending (axis page part : Byte) :
    (doAxisQuery axis page part s).state.pending = s.pending := by
  refine onAxisIndex_pending axis fun i => ?_
  dsimp only
  split <;> rfl

theorem unitReset_pending (straps : BitVec 5) : (unitReset straps s).pending = s.pending :=
  stopPhase_pending s

theorem resetBlocks_pending (straps : BitVec 5) (power : Power) :
    (resetBlocks straps power s).pending = s.pending :=
  stopPhase_pending s

/-- No owner of a request touches the queue. -/
theorem perform_pending (o : Origin) (r : Request) : (perform o r s).state.pending = s.pending := by
  cases r with
  | cueable r => exact performCueable_pending s r
  | run | sync | cueCancel | clear => rfl
  | unitSettings policy halts holdWindow haltWindow => exact doUnitSettings_pending s _ _ _ _
  | unitReset straps =>
    cases o with
    | addressed => rfl
    | broadcast => exact unitReset_pending s straps
  | axisMotionConfig axis f => exact doAxisMotionConfig_pending s axis f
  | axisSenseConfig axis f => exact doAxisSenseConfig_pending s axis f
  | home axis => exact onAxisIndex_pending axis fun i => by split_ifs <;> rfl
  | faultAck axis => exact onAxisIndex_pending axis fun i => by split <;> rfl
  | cue time tag kind payload => exact doCue_pending s time tag kind payload
  | stageHeader table sequence count final =>
    show (doStageHeader table sequence count final s).state.pending = s.pending
    unfold doStageHeader
    split <;> [rfl; (split <;> rfl)]
  | stageKnots first knots =>
    show (doStageKnots first knots s).state.pending = s.pending
    unfold doStageKnots
    split_ifs <;> rfl
  | stageClear =>
    show (doStageClear s).state.pending = s.pending
    unfold doStageClear
    split_ifs <;> rfl
  | commit segment eraseOnly => exact doCommit_pending s segment eraseOnly
  | abortRewrite => exact doAbortRewrite_pending s
  | statusQuery page part =>
    show (doStatusQuery page part s).state.pending = s.pending
    unfold doStatusQuery
    split <;> rfl
  | axisQuery axis page part => exact doAxisQuery_pending s axis page part
  | tableQuery table part =>
    show (doTableQuery table part s).state.pending = s.pending
    unfold doTableQuery
    split <;> rfl
  | segmentQuery segment =>
    show (doSegmentQuery segment s).state.pending = s.pending
    unfold doSegmentQuery
    split <;> rfl

theorem answered_pending (o : Origin) (kind : Byte) (x : Result) :
    (answered o kind x).pending = x.state.pending := by
  cases o <;> rfl

theorem takeRequest_pending (o : Origin) (kind : Byte) (request : Option Request) :
    (takeRequest o kind request s).pending = s.pending := by
  rcases takeRequest_cases o kind request s with h | h | ⟨code, -, h⟩ | ⟨r, -, -, -, h⟩ <;> rw [h]
  · rfl
  · exact (answered_pending .addressed kind (answerRefused code s)).trans rfl
  · exact (answered_pending o kind _).trans (perform_pending s o r)

/-! ### The show link -/

theorem showInCharacter_pending (c : LinkChar) : (showInCharacter c s).pending = s.pending := by
  unfold showInCharacter assemble
  dsimp only
  split
  · rfl
  · rfl
  · split
    · split <;> rfl
    all_goals rfl

theorem frameEnd_pending (straps : BitVec 5) : (frameEnd straps s).pending = s.pending := by
  unfold frameEnd
  split
  · dsimp only
    split
    · rfl
    · split
      · rfl
      · split
        · rfl
        · exact takeRequest_pending _ _ _ _
  · rfl

theorem returnInCharacter_pending (c : LinkChar) : (returnInCharacter c s).pending = s.pending := by
  unfold returnInCharacter relayIn
  dsimp only
  split
  · rfl
  · rfl
  · split_ifs <;> rfl

theorem returnInIdle_pending : (returnInIdle s).pending = s.pending := by
  unfold returnInIdle
  split
  · rfl
  · rfl
  · split <;> rfl

theorem gapEnd_pending : (gapEnd s).pending = s.pending := by
  unfold gapEnd
  split <;> rfl

theorem bufferedCharacterSent_pending : (bufferedCharacterSent s).pending = s.pending := by
  unfold bufferedCharacterSent
  split
  · split <;> rfl
  · rfl

theorem ownReplyStart_pending : (ownReplyStart s).pending = s.pending := by
  unfold ownReplyStart
  split <;> rfl

theorem ownReplyEnd_pending (straps : BitVec 5) : (ownReplyEnd straps s).pending = s.pending := by
  unfold ownReplyEnd
  split
  · split
    · rfl
    · dsimp only
      split
      · exact unitReset_pending _ straps
      · rfl
  · rfl

/-! ### The Lane Update -/

theorem evaluateAxis_pending (u : LaneUpdate) (i : AxisIdx) : (evaluateAxis u i s).pending = s.pending := by
  unfold evaluateAxis
  dsimp only
  split
  · exact postRead_pending _ i
  · rfl

theorem drivenTurn_pending (i : AxisIdx) : (drivenTurn i s).pending = s.pending := by
  rcases drivenTurn_cases i s with ⟨stop, -, h⟩ | ⟨-, ⟨-, h⟩ | ⟨-, h⟩⟩ <;> rw [h] <;> rfl

theorem homingTurn_pending (i : AxisIdx) : (homingTurn i s).pending = s.pending := by
  rcases homingTurn_cases i s with h | ⟨-, h⟩ | ⟨-, h⟩ <;> rw [h]
  · exact faultAxis_pending s i .homeFail
  · rfl
  · rfl

theorem evaluatingTurn_pending (u : LaneUpdate) (i : AxisIdx) :
    (evaluatingTurn u i s).pending = s.pending := by
  have heval := evaluateAxis_pending s u i
  unfold evaluatingTurn
  split
  · exact (drivenTurn_pending _ i).trans heval
  · dsimp only
    split
    · exact (drivenTurn_pending _ i).trans heval
    · exact heval
  · exact drivenTurn_pending s i
  · exact drivenTurn_pending s i
  all_goals rfl

theorem axisTurn_pending (u : LaneUpdate) (i : AxisIdx) : (axisTurn u i s).pending = s.pending := by
  show (turnBody u i s).pending = s.pending
  unfold turnBody
  split
  · rfl
  · rfl
  · split
    · exact faultAxis_pending s i .drive
    · exact homingTurn_pending s i
  all_goals
    split_ifs
    · exact faultAxis_pending s i .drive
    · exact faultAxis_pending s i .follow
    · exact evaluatingTurn_pending s u i

theorem fireCue_pending (c : CueRecord) : (fireCue c s).pending = s.pending := by
  unfold fireCue
  dsimp only
  split <;> exact performCueable_pending s c.request

theorem passStep_pending (w : UpdateWork) : (passStep w s).pending = s.pending := by
  rcases passStep_cases w s with ⟨c, rest, -, -, h⟩ | h <;> rw [h]
  · exact fireCue_pending _ c
  · rfl

theorem turnStep_pending (w : UpdateWork) (i : AxisIdx) (rest : List AxisIdx) :
    (turnStep w i rest s).pending = s.pending :=
  axisTurn_pending _ w.update i

theorem workStep_pending : (workStep s).pending = s.pending := by
  rcases workStep_cases s with ⟨-, h⟩ | ⟨w, -, ⟨-, -, h⟩ | ⟨-, h | h⟩ | ⟨i, rest, -, h | h⟩⟩ <;> rw [h]
  · rfl
  · exact passStep_pending s w
  · exact passStep_pending s.afterDraw w
  · exact turnStep_pending s w i rest
  · exact turnStep_pending s.afterDraw w i rest

theorem runWork_pending (n : Nat) : (runWork n s).pending = s.pending := by
  induction n generalizing s with
  | zero => rfl
  | succ n ih => exact (ih _).trans (workStep_pending s)

theorem beginUpdate_pending : (beginUpdate s).pending = s.pending := by
  unfold beginUpdate
  rcases settleLanes_cases s with h | h <;> rw [h] <;> rfl

theorem laneUpdate_pending : (laneUpdate s).pending = s.pending := by
  unfold laneUpdate
  split
  · exact (runWork_pending _ _).trans ((beginUpdate_pending _).trans (runWork_pending s _))
  · rfl

/-! ### Resets -/

theorem powerLoss_pending : (powerLoss s).pending = s.pending := by
  unfold powerLoss
  split
  · rfl
  all_goals exact resetBlocks_pending s 0 .off

theorem resetLineAsserted_pending : (resetLineAsserted s).pending = s.pending := by
  unfold resetLineAsserted
  split
  · rfl
  all_goals exact resetBlocks_pending s _ .inReset

theorem startUpScanCompletion_pending : (startUpScanCompletion s).pending = s.pending := by
  unfold startUpScanCompletion
  split <;> rfl

end

/-! ### Every command, and the step -/

/-- The command answers a next state, with the commands that wait as they were. -/
def GoesOn (c : Instr) (s : State) : Prop := ∃ t, exec c s = .next t ∧ t.pending = s.pending

section
variable {s : State} {c : Instr}

theorem goesOn_of_next {t : State} (h : exec c s = .next t) (ht : t.pending = s.pending) : GoesOn c s :=
  ⟨t, h, ht⟩

/-- An event of the running unit (log 9). -/
theorem goesOn_whenOn {f : State → State} (h : exec c s = whenOn f s) (hf : (f s).pending = s.pending) :
    GoesOn c s := by
  refine goesOn_of_next h ?_
  split
  · exact hf
  · rfl

end

theorem goesOn (c : Instr) (s : State) : GoesOn c s := by
  cases c with
  | powerOnReset straps => exact goesOn_of_next rfl (resetBlocks_pending s straps .on)
  | powerLoss => exact goesOn_of_next rfl (powerLoss_pending s)
  | startUpScanCompletion => exact goesOn_of_next rfl (startUpScanCompletion_pending s)
  | laneUpdate => exact goesOn_of_next rfl (laneUpdate_pending s)
  | showInCharacter c => exact goesOn_of_next rfl (showInCharacter_pending s c)
  | frameEnd straps => exact goesOn_of_next rfl (frameEnd_pending s straps)
  | returnInCharacter c => exact goesOn_of_next rfl (returnInCharacter_pending s c)
  | returnInIdle => exact goesOn_of_next rfl (returnInIdle_pending s)
  | gapEnd => exact goesOn_of_next rfl (gapEnd_pending s)
  | bufferedCharacterSent => exact goesOn_of_next rfl (bufferedCharacterSent_pending s)
  | ownReplyStart => exact goesOn_of_next rfl (ownReplyStart_pending s)
  | ownReplyEnd straps => exact goesOn_of_next rfl (ownReplyEnd_pending s straps)
  | holdLineAcceptance level =>
    refine goesOn_whenOn rfl ?_
    split
    · exact sampleHold_pending s level
    · rfl
  | haltLineAcceptance level =>
    refine goesOn_whenOn rfl ?_
    split
    · exact sampleHalt_pending s level
    · rfl
  | homeAcceptance axis level => exact goesOn_whenOn rfl (acceptInput_pending s axis .home level)
  | limitAcceptance axis stop level =>
    exact goesOn_whenOn rfl (acceptInput_pending s axis (stopInput stop) level)
  | drvFaultAcceptance axis level => exact goesOn_whenOn rfl (acceptInput_pending s axis .drvFault level)
  | encoderTransition | stepPulseBegin | stepPulseEnd => exact goesOn_whenOn rfl rfl
  | indexEvent axis encI => exact goesOn_whenOn rfl (seeIndex_pending s axis encI)
  | knotReadGrant => exact goesOn_whenOn rfl (grantRead_pending s)
  | knotReadCompletion => exact goesOn_whenOn rfl (completeRead_pending s)
  | suspendAcknowledge => exact goesOn_whenOn rfl (suspendAcknowledge_pending s)
  | eraseCompletion => exact goesOn_whenOn rfl (eraseComplete_pending s)
  | programCompletion verified => exact goesOn_whenOn rfl (programComplete_pending s verified)
  | abortCompletion => exact goesOn_whenOn rfl (abortComplete_pending s)
  | filterSample line level => exact goesOn_whenOn rfl (sampleLine_pending s line level)
  | resetLineAsserted => exact goesOn_of_next rfl (resetLineAsserted_pending s)
  | _ => exact goesOn_of_next rfl (takeRequest_pending s _ _ _)

/-- Settles O2: the commands and the requests in hand, one by one, keep the queue (`goesOn`). -/
theorem commandsGoOnAndKeepTheQueue : Obligations.CommandsGoOnAndKeepTheQueue := goesOn

/-- Settles O1: `step` by its queue, and `workStep` where no work is in hand. -/
theorem stepRunsFrontCommand : Obligations.StepRunsFrontCommand := by
  have hempty : ∀ s : State, s.pending = [] → step s = .next (workStep s) := fun s h => by
    rw [step, h]
  refine ⟨fun c rest s => rfl, hempty, fun s h hwork => ?_⟩
  rw [hempty s h, workStep_none hwork]

end Sys2Proof.Machine
end

section
/-! Requests read back from their bytes (spec/12), and the statements about the encoding (O53, O50). -/

namespace Sys2Proof.Machine

/-! ### Fields -/

/-- The two halves of a field make it up. -/
theorem extract_append_extract (n : Nat) (x : BitVec (n + n)) :
    x.extractLsb' n n ++ x.extractLsb' 0 n = x := by
  simp [BitVec.extractLsb'_append_extractLsb'_eq_extractLsb']

@[simp] theorem read8_cons (b : Byte) (rest : List Byte) : read8 (b :: rest) = some (b, rest) := rfl

@[simp] theorem read16_bytes16 (x : BitVec 16) (rest : List Byte) :
    read16 (bytes16 x ++ rest) = some (x, rest) :=
  congrArg (fun x => some (x, rest)) (extract_append_extract 8 x)

@[simp] theorem read32_bytes32 (x : BitVec 32) (rest : List Byte) :
    read32 (bytes32 x ++ rest) = some (x, rest) := by
  simp only [read32, bytes32, List.append_assoc, read16_bytes16, Option.bind_eq_bind, Option.bind_some]
  exact congrArg (fun x => some (x, rest)) (extract_append_extract 16 x)

@[simp] theorem read64_bytes64 (x : BitVec 64) (rest : List Byte) :
    read64 (bytes64 x ++ rest) = some (x, rest) := by
  simp only [read64, bytes64, List.append_assoc, read32_bytes32, Option.bind_eq_bind, Option.bind_some]
  exact congrArg (fun x => some (x, rest)) (extract_append_extract 32 x)

/-- A field is read before what follows it is looked at. -/
theorem bind_read8 {α : Type} (b : Byte) (p : List Byte) (g : Byte × List Byte → Option α) :
    read8 (b :: p) >>= g = g (b, p) := rfl

theorem bind_read16 {α : Type} (x : BitVec 16) (p : List Byte) (g : BitVec 16 × List Byte → Option α) :
    read16 (bytes16 x ++ p) >>= g = g (x, p) := by
  rw [read16_bytes16]
  rfl

theorem bind_read32 {α : Type} (x : BitVec 32) (p : List Byte) (g : BitVec 32 × List Byte → Option α) :
    read32 (bytes32 x ++ p) >>= g = g (x, p) := by
  rw [read32_bytes32]
  rfl

theorem bind_read64 {α : Type} (x : BitVec 64) (p : List Byte) (g : BitVec 64 × List Byte → Option α) :
    read64 (bytes64 x ++ p) >>= g = g (x, p) := by
  rw [read64_bytes64]
  rfl

@[simp] theorem readEnd_nil {α : Type} (x : α) : readEnd x [] = some x := rfl

@[simp] theorem bytes32_length (x : BitVec 32) : (bytes32 x).length = 4 := rfl

@[simp] theorem bytes64_length (x : BitVec 64) : (bytes64 x).length = 8 := rfl

/-! ### The last field of a payload -/

@[simp] theorem read16_bytes16_end (x : BitVec 16) : read16 (bytes16 x) = some (x, []) :=
  read16_bytes16 x []

@[simp] theorem read64_bytes64_end (x : BitVec 64) : read64 (bytes64 x) = some (x, []) := by
  simpa using read64_bytes64 x []

/-! ### Payloads -/

@[simp] theorem decode64_bytes (x : BitVec 64) : decode64 (bytes64 x) = some x := by
  simp [decode64]

theorem decode16_bytes (x : BitVec 16) : decode16 (bytes16 x) = some x := by
  simp [decode16]

theorem decodeSkyRate_bytes (endRate : BitVec 64) (length : BitVec 16) :
    decodeSkyRate (bytes64 endRate ++ bytes16 length) = some (endRate, length) := by
  simp [decodeSkyRate]

theorem decodeMove_bytes (axis : Byte) (endPosition arrival : BitVec 64) :
    decodeMove (axis :: (bytes64 endPosition ++ bytes64 arrival)) = some (axis, endPosition, arrival) := by
  simp [decodeMove]

/-- The layout of a law is told by its size. -/
theorem decodeLawBody_bytes (body : LawBody) : decodeLawBody body.bytes = some body := by
  cases body with
  | empty => rfl
  | linear phase rate epoch => simp [decodeLawBody, LawBody.bytes]
  | table id offset => simp [decodeLawBody, LawBody.bytes]
  | coupled source numerator denominator phase => simp [decodeLawBody, LawBody.bytes]

theorem decodeAxisLaw_bytes (axis kind : Byte) (body : LawBody) :
    decodeAxisLaw (axis :: kind :: body.bytes) = some (axis, kind, body) := by
  simp [decodeAxisLaw, decodeLawBody_bytes]

theorem decodeMotion_bytes (axis : Byte) (f : MotionFields) :
    decodeMotion (axis :: f.bytes) = some (axis, f) := by
  simp only [MotionFields.bytes, List.append_assoc]
  simp only [decodeMotion, ↓bind_read8, ↓bind_read16, ↓bind_read32, ↓bind_read64, readEnd_nil]

theorem decodeSense_bytes (axis : Byte) (f : SenseFields) :
    decodeSense (axis :: f.bytes) = some (axis, f) := by
  simp only [SenseFields.bytes, List.append_assoc]
  simp only [decodeSense, ↓bind_read8, ↓bind_read16, ↓bind_read32, ↓bind_read64]
  rfl

@[simp] theorem knotsBytes_length (knots : List KnotField) :
    (knotsBytes knots).length = 16 * knots.length := by
  induction knots with
  | nil => rfl
  | cons k rest ih =>
    simp only [knotsBytes, KnotField.bytes, List.length_append, bytes64_length, ih, List.length_cons]
    omega

theorem decodeKnots_bytes (knots : List KnotField) :
    decodeKnots knots.length (knotsBytes knots) = some knots := by
  induction knots with
  | nil => rfl
  | cons k rest ih => simp [decodeKnots, knotsBytes, KnotField.bytes, ih]

theorem knotCountOk_iff (knots : List KnotField) :
    knotCountOk knots = true ↔ knots.length = 1 ∨ knots.length = 2 ∨ knots.length = 3 := by
  simp only [knotCountOk, Bool.and_eq_true, decide_eq_true_eq]
  omega

/-- One to three knots are told by their size (R65). -/
theorem decodeStageKnots_bytes (first : Byte) {knots : List KnotField} (h : knotCountOk knots = true) :
    decodeStageKnots (first :: knotsBytes knots) = some (first, knots) := by
  have hread := decodeKnots_bytes knots
  rw [knotCountOk_iff] at h
  rcases h with h | h | h <;> rw [h] at hread <;> simp [decodeStageKnots, h, hread]

theorem decodeCommit_bytes (segment : BitVec 16) (eraseOnly : Byte) :
    decodeCommit (bytes16 segment ++ [eraseOnly]) = some (segment, eraseOnly) := by
  simp [decodeCommit]

theorem decodeClear_bytes (f : ClearFields) : decodeClear (Request.clear f).payload = some f := by
  simp [decodeClear, Request.payload]

theorem decodeCue_bytes (time : BitVec 64) (tag kind : Byte) (payload : List Byte) :
    decodeCue (bytes64 time ++ tag :: kind :: payload) = some (.cue time tag kind payload) := by
  simp [decodeCue]

/-! ### Requests -/

theorem decodeCueRequest_payload (r : CueRequest) : decodeCueRequest r.kind r.payload = some r := by
  cases r with
  | hold | release | enable | disable | track | stop | flush => rfl
  | skySet | showSet | skyRate | axisLaw | move =>
    simp [decodeCueRequest, CueRequest.kind, CueRequest.payload, decodeSkyRate_bytes, decodeAxisLaw_bytes,
      decodeMove_bytes]

/-- The request as a frame with its payload spells it: a UNIT_RESET has the straps it is read with. -/
def readWith (straps : BitVec 5) : Request → Request
  | .unitReset _ => .unitReset straps
  | r => r

theorem cueableKind_kind (r : CueRequest) : cueableKind r.kind = true := by
  cases r <;> rfl

/-- A kind that is cueable is read as a cue would read it. -/
theorem decodeRequest_of_cueableKind (straps : BitVec 5) {kind : Byte} (h : cueableKind kind = true)
    (payload : List Byte) :
    decodeRequest straps kind payload = (decodeCueRequest kind payload).map .cueable := by
  rw [cueableKind_iff] at h
  unfold decodeRequest
  generalize kind.toNat = k at h
  simp only [List.mem_cons, List.not_mem_nil, or_false] at h
  rcases h with rfl | rfl | rfl | rfl | rfl | rfl | rfl | rfl | rfl | rfl | rfl | rfl <;> rfl

theorem decodeRequest_payload (straps : BitVec 5) {r : Request} (h : r.wf = true) :
    decodeRequest straps r.kind r.payload = some (readWith straps r) := by
  cases r with
  | cueable r =>
    exact (decodeRequest_of_cueableKind straps (cueableKind_kind r) _).trans
      (congrArg (Option.map _) (decodeCueRequest_payload r))
  | cue time tag kind payload => exact decodeCue_bytes time tag kind payload
  | stageKnots first knots =>
    simp [decodeRequest, Request.kind, Request.payload, readWith, decodeStageKnots_bytes first h]
  | clear f =>
    have hread := decodeClear_bytes f
    simp [decodeRequest, Request.kind, readWith, hread]
  | axisMotionConfig | axisSenseConfig | commit | segmentQuery =>
    simp [decodeRequest, Request.kind, Request.payload, readWith, decodeMotion_bytes, decodeSense_bytes,
      decodeCommit_bytes, decode16_bytes]
  | _ => rfl

/-! ### Payload sizes -/

theorem lawBytes_length_le (body : LawBody) : body.bytes.length ≤ 24 := by
  cases body <;> simp [LawBody.bytes]

theorem cuePayload_length_le (r : CueRequest) : r.payload.length ≤ 26 := by
  cases r with
  | axisLaw axis kind body =>
    have := lawBytes_length_le body
    simp only [CueRequest.payload, List.length_cons]
    omega
  | _ => simp [CueRequest.payload]

/-- Every well-formed request fits a frame (R161). -/
theorem payload_length_le {r : Request} (h : r.wf = true) : r.payload.length ≤ 58 := by
  cases r with
  | cueable r => exact (cuePayload_length_le r).trans (by decide)
  | cue time tag kind payload =>
    have : payload.length ≤ 48 := of_decide_eq_true h
    simp only [Request.payload, List.length_append, bytes64_length, List.length_cons]
    omega
  | stageKnots first knots =>
    have : knots.length = 1 ∨ knots.length = 2 ∨ knots.length = 3 := (knotCountOk_iff knots).1 h
    simp only [Request.payload, List.length_cons, knotsBytes_length]
    omega
  | axisMotionConfig axis f => simp [Request.payload, MotionFields.bytes]
  | axisSenseConfig axis f => simp [Request.payload, SenseFields.bytes, InputBytes.bytes]
  | _ => simp [Request.payload]

/-- Settles O53: each payload is read back field by field (`decodeRequest_payload`). -/
theorem requestsAreReadBackFromTheirBytes : Obligations.RequestsAreReadBackFromTheirBytes := by
  intro straps r h
  refine ⟨?_, requestKind_kind r, payload_length_le h⟩
  rw [decodeRequest_payload straps h]
  cases r <;> rfl

/-! ### Worked words -/

/-- Settles O50: the shift by the register's top bit, and the worked words as the model evaluates them. -/
theorem workedWordsAreReadRight : Obligations.WorkedWordsAreReadRight := by
  refine ⟨⟨fun r => ?_, by decide +kernel⟩, by decide, by decide, by decide, by decide, by decide⟩
  rw [crcShift, BitVec.msb_eq_getLsbD_last]
  rfl

end Sys2Proof.Machine
end

section
/-! The tests of R165 in their order, the sizes of every kind (R177), and the statement about them (O7). -/

namespace Sys2Proof.Machine

/-! ### The tests of R165 -/

section
variable {o : Origin} {kind : Byte} {request : Option Request} {s : State}

theorem takesRequests_iff : s.takesRequests = true ↔ s.power = .on ∧ s.link.resetPending = false := by
  simp [State.takesRequests]

theorem takesKind_iff : s.takesKind kind = true ↔ s.memory.startUp = .complete ∨ kind = 0x30 := by
  rw [State.takesKind, Bool.or_eq_true, decide_eq_true_iff, decide_eq_true_iff]
  rfl

theorem addressable_iff (k : LinkPort) :
    k.addressable = true ↔ k.ownAddress.toNat ≠ 0 ∧ k.ownAddress.toNat ≠ 31 := by
  simp [LinkPort.addressable, ← BitVec.toNat_inj]

theorem isQueryKind_iff (kind : Byte) : isQueryKind kind = true ↔ kind.toNat ∈ [0x30, 0x31, 0x32, 0x33] :=
  List.contains_iff_mem

theorem requestKind_iff (kind : Byte) : requestKind kind = true ↔ kind.toNat ∈
    [0x01, 0x02, 0x03, 0x04, 0x05, 0x06, 0x07, 0x08, 0x09, 0x10, 0x11, 0x12, 0x13, 0x14, 0x15, 0x16, 0x17,
      0x18, 0x19, 0x1A, 0x20, 0x21, 0x28, 0x29, 0x2A, 0x2B, 0x2C, 0x30, 0x31, 0x32, 0x33, 0x38] := by
  rw [requestKind, cueableKind, Bool.or_eq_true, List.contains_iff_mem, List.contains_iff_mem,
    ← List.mem_append]
  exact List.Perm.mem_iff (by decide)

/-- A unit that takes no frames takes no request (R174, R175). -/
theorem takeRequest_of_not_takes (h : s.power ≠ .on ∨ s.link.resetPending = true) :
    takeRequest o kind request s = s := by
  have ht : s.takesRequests = false := by
    rw [← Bool.not_eq_true, takesRequests_iff]
    rintro ⟨hp, hr⟩
    rcases h with h | h
    · exact h hp
    · simp [hr] at h
  cases o with
  | addressed => exact if_pos (.inl ht)
  | broadcast => exact if_pos (.inl ht)

/-- No frame is addressed to a unit of own address 0 or 31 (R163). -/
theorem takeRequest_of_not_addressable (ha : s.link.addressable = false) :
    takeRequest .addressed kind request s = s :=
  if_pos (.inr ha)

/-- A broadcast query leaves no trace (R165). -/
theorem takeRequest_of_query (hq : isQueryKind kind = true) : takeRequest .broadcast kind request s = s :=
  if_pos (.inr hq)

section
variable (hp : s.power = .on) (hr : s.link.resetPending = false)
include hp hr

/-- A request that finds the Reply Queue full is dropped and counted (R167). -/
theorem takeRequest_of_full (ha : s.link.addressable = true) (hfull : 4 ≤ s.link.replies.length) :
    takeRequest .addressed kind request s =
      linkError { s.link with requestOverruns := countUp 65535 1 s.link.requestOverruns } s := by
  have ht := takesRequests_iff.2 ⟨hp, hr⟩
  exact (if_neg (by simp [ht, ha])).trans (if_pos hfull)

/-- An addressed request with room for its reply is judged and answered (R165, R167). -/
theorem takeRequest_of_room (ha : s.link.addressable = true) (hroom : s.link.replies.length < 4) :
    takeRequest .addressed kind request s =
      answered .addressed kind (judge .addressed kind request s) := by
  have ht := takesRequests_iff.2 ⟨hp, hr⟩
  exact (if_neg (by simp [ht, ha])).trans (if_neg (not_le.2 hroom))

/-- A broadcast request that is no query is judged (R165). -/
theorem takeRequest_of_broadcast (hq : isQueryKind kind = false) :
    takeRequest .broadcast kind request s =
      answered .broadcast kind (judge .broadcast kind request s) := by
  have ht := takesRequests_iff.2 ⟨hp, hr⟩
  exact if_neg (by simp [ht, hq])

variable (ha : o = .addressed → s.link.addressable = true ∧ s.link.replies.length < 4)
include ha

/-- A request that reaches the tests is judged, but for a broadcast query. -/
theorem takeRequest_of_admitted (hq : o = .addressed ∨ isQueryKind kind = false) :
    takeRequest o kind request s = answered o kind (judge o kind request s) := by
  cases o with
  | addressed => exact takeRequest_of_room hp hr (ha rfl).1 (ha rfl).2
  | broadcast => exact takeRequest_of_broadcast hp hr (hq.resolve_left nofun)

/-- A request that a test refuses is answered with the refusal; a broadcast one leaves no trace, a query
or not. -/
theorem takeRequest_of_refused {code : ResultCode} (h : judge o kind request s = answerRefused code s) :
    takeRequest o kind request s = answered o kind (answerRefused code s) := by
  by_cases hq : o = .addressed ∨ isQueryKind kind = false
  · rw [takeRequest_of_admitted hp hr ha hq, h]
  · rw [not_or, Bool.not_eq_false] at hq
    obtain ⟨ho, hq⟩ := hq
    cases o with
    | addressed => exact absurd rfl ho
    | broadcast => exact takeRequest_of_query hq

end

theorem judge_of_unknownKind (h : requestKind kind = false) :
    judge o kind request s = answerRefused .unknownKind s :=
  if_pos h

theorem judge_of_scanning (h : requestKind kind = true) (hs : s.memory.startUp = .scanning)
    (hk : kind ≠ 0x30) : judge o kind request s = answerRefused .notReady s := by
  have ht : s.takesKind kind = false := by
    rw [← Bool.not_eq_true, takesKind_iff, not_or]
    exact ⟨by simp [hs], hk⟩
  exact (if_neg (by simp [h])).trans (if_pos ht)

/-- A request that passes the tests of its kind is read from its payload, if it can be (test 4). -/
theorem judge_of_ready (h : requestKind kind = true) (hs : s.memory.startUp = .complete ∨ kind = 0x30) :
    judge o kind request s = request.elim (answerRefused .badLength s) (fun r => perform o r s) := by
  refine (if_neg (by simp [h])).trans ((if_neg (by simp [takesKind_iff.2 hs])).trans ?_)
  cases request <;> rfl

theorem isQueryKind_of_status (h : kind = 0x30) : isQueryKind kind = true := by
  subst h
  rfl

end

/-! ### The sizes of the kinds (R165, R177) -/

theorem readsSizes_decode8x2 : ReadsSizes [2] decode8x2 :=
  .field readsField_read8 fun x => .field readsField_read8 fun y => readsSizes_readEnd (x, y)

theorem readsSizes_decode8x3 : ReadsSizes [3] decode8x3 :=
  .field readsField_read8 fun x => .field readsField_read8 fun y => .field readsField_read8 fun z =>
    readsSizes_readEnd (x, y, z)

theorem readsSizes_decode8x4 : ReadsSizes [4] decode8x4 :=
  .field readsField_read8 fun x => .field readsField_read8 fun y => .field readsField_read8 fun z =>
    .field readsField_read8 fun w => readsSizes_readEnd (x, y, z, w)

theorem readsSizes_decode16 : ReadsSizes [2] decode16 :=
  .field readsField_read16 fun _ => readsSizes_readEnd _

theorem readsSizes_decodeMotion : ReadsSizes [35] decodeMotion :=
  .field (sizes := [34]) readsField_read8 fun axis => .field (sizes := [33]) readsField_read8 fun kind =>
  .field (sizes := [29]) readsField_read32 fun steps => .field (sizes := [28]) readsField_read8 fun lane =>
  .field (sizes := [26]) readsField_read16 fun vmax => .field (sizes := [24]) readsField_read16 fun amax =>
  .field (sizes := [22]) readsField_read16 fun backlash =>
  .field (sizes := [14]) readsField_read64 fun softMin =>
  .field (sizes := [6]) readsField_read64 fun softMax =>
  .field (sizes := [2]) readsField_read32 fun lagLimit =>
  .field (sizes := [1]) readsField_read8 fun holdResponse =>
  .field (sizes := [0]) readsField_read8 fun parkMode =>
  readsSizes_readEnd (axis, MotionFields.mk kind steps lane vmax amax backlash softMin softMax lagLimit
    holdResponse parkMode)

theorem readsField_readInputs : ReadsField 4 readInputs
  | [] | [_] | [_, _] | [_, _, _] => rfl
  | _ :: _ :: _ :: _ :: _ => ⟨_, rfl⟩

theorem readsSizes_decodeSense : ReadsSizes [35] decodeSense :=
  .field (sizes := [34]) readsField_read8 fun axis =>
  .field (sizes := [33]) readsField_read8 fun encoderMode =>
  .field (sizes := [32]) readsField_read8 fun invert =>
  .field (sizes := [28]) readsField_read32 fun counts =>
  .field (sizes := [24]) readsField_read32 fun followLimit =>
  .field (sizes := [23]) readsField_read8 fun homeMode =>
  .field (sizes := [22]) readsField_read8 fun homeDirection =>
  .field (sizes := [20]) readsField_read16 fun homeSpeed =>
  .field (sizes := [16]) readsField_read32 fun travelLimit =>
  .field (sizes := [8]) readsField_read64 fun homeOffset =>
  .field (sizes := [4]) readsField_readInputs fun activeLevels =>
  .field (sizes := [0]) readsField_readInputs fun windows =>
  readsSizes_readEnd (axis, SenseFields.mk encoderMode invert counts followLimit homeMode homeDirection
    homeSpeed travelLimit homeOffset activeLevels windows)

theorem readsSizes_decodeKnots (n : Nat) : ReadsSizes [16 * n] (decodeKnots n) := by
  induction n with
  | zero => exact readsSizes_readEnd _
  | succ n ih =>
    have hsize : [8 + (8 + 16 * n)] = [16 * (n + 1)] := congrArg (fun k => [k]) (by omega)
    rw [← hsize]
    exact .field readsField_read64 fun time => .field readsField_read64 fun angle =>
      .bind ih (({ time, angle } : KnotField) :: ·)

/-- One to three knots, 16 bytes each, after the first slot (R65). -/
theorem readsSizes_decodeStageKnots : ReadsSizes [17, 33, 49] decodeStageKnots
  | [] => by simp [decodeStageKnots, read8]
  | first :: rest => by
    have hknots : ∀ n, ((decodeKnots n rest).bind fun knots => some (first, knots)) = none ↔
        rest.length ∉ [16 * n] := fun n => (readsSizes_decodeKnots n).bind (first, ·) rest
    simp only [decodeStageKnots, read8_cons, Option.bind_eq_bind, Option.bind_some]
    split
    case h_1 hsize => exact (hknots 1).trans (by simp [hsize])
    case h_2 hsize => exact (hknots 2).trans (by simp [hsize])
    case h_3 hsize => exact (hknots 3).trans (by simp [hsize])
    case h_4 h₁ h₂ h₃ =>
      refine iff_of_true rfl ?_
      simpa using ⟨h₁, h₂, h₃⟩

theorem readsSizes_decodeCommit : ReadsSizes [3] decodeCommit :=
  .field readsField_read16 fun _ => .field readsField_read8 fun _ => readsSizes_readEnd _

theorem readsSizes_decodeClear : ReadsSizes [10] decodeClear :=
  .field readsField_read8 fun _ => .field readsField_read16 fun _ => .field readsField_read16 fun _ =>
    .field readsField_read16 fun _ => .field readsField_read8 fun _ => .field readsField_read16 fun _ =>
    readsSizes_readEnd _

/-- A field before bytes of which at least `m` are read. -/
theorem ReadsField.atLeast {α β : Type} {m n : Nat} {f : List Byte → Option (α × List Byte)}
    {g : α → List Byte → Option β} (hf : ReadsField n f) (hg : ∀ x p, g x p = none ↔ p.length < m)
    (p : List Byte) :
    (do
      let (x, p) ← f p
      g x p) = none ↔ p.length < n + m := by
  have hf := hf p
  split_ifs at hf with hn
  · obtain ⟨x, hx⟩ := hf
    simp only [hx, Option.bind_eq_bind, Option.bind_some, hg, List.length_drop]
    omega
  · simp only [hf, Option.bind_eq_bind, Option.bind_none, true_iff]
    omega

/-- A CUE has ten bytes before its embedded payload, which may have any size. -/
theorem decodeCue_eq_none_iff (p : List Byte) : decodeCue p = none ↔ p.length < 10 :=
  readsField_read64.atLeast (fun time => readsField_read8.atLeast fun tag =>
    readsField_read8.atLeast (m := 0) (g := fun kind p => some (Request.cue time tag kind p))
      fun _ _ => by simp) p

/-- A payload of a request kind is read where its size is one of the kind's (R165, R177). -/
theorem decodeRequest_eq_none_iff (straps : BitVec 5) {kind : Byte} (h : requestKind kind = true)
    (payload : List Byte) :
    decodeRequest straps kind payload = none ↔ sizeOf kind.toNat payload.length = false := by
  rw [requestKind, Bool.or_eq_true] at h
  rcases h with h | h
  · rw [decodeRequest_of_cueableKind straps h, Option.map_eq_none_iff, decodeCueRequest_eq_none_iff h]
  · rw [List.contains_iff_mem] at h
    unfold decodeRequest
    generalize kind.toNat = k at h
    simp only [List.mem_cons, List.not_mem_nil, or_false] at h
    rcases h with rfl | rfl | rfl | rfl | rfl | rfl | rfl | rfl | rfl | rfl | rfl | rfl | rfl | rfl |
      rfl | rfl | rfl | rfl | rfl | rfl
    all_goals
      simp [sizeOf, readsSizes_decode8 payload, readsSizes_decode8x2 payload, readsSizes_decode8x3 payload,
        readsSizes_decode8x4 payload, readsSizes_decode16 payload, readsSizes_decodeMotion payload,
        readsSizes_decodeSense payload, readsSizes_decodeStageKnots payload,
        readsSizes_decodeCommit payload, readsSizes_decodeClear payload, decodeCue_eq_none_iff payload,
        fun r : Request => readsSizes_readEnd r payload]

/-! ### The statement -/

/-- Settles O7: the tests of R165 in their order, on the command's request and on a frame's. -/
theorem requestsAreTestedInOrder : Obligations.RequestsAreTestedInOrder := by
  refine ⟨fun o r s hwf => ?_, addressable_iff, isQueryKind_iff, fun kind x => ⟨rfl, rfl⟩, requestKind_iff,
    fun straps kind payload h => decodeRequest_eq_none_iff straps h payload,
    fun o kind request s hp hr ha => ?_, fun o first knots s ht hcount => ?_⟩
  · simp only [exec_requestCommand o hwf, arrive, Host.Outcome.next.injEq]
    have hkind := requestKind_kind r
    refine ⟨takeRequest_of_not_takes, fun hp hr => ⟨?_, ?_, ?_, ?_, ?_, ?_, ?_⟩⟩
    · rintro rfl ha
      exact takeRequest_of_not_addressable ha
    · rintro rfl ha hfull
      exact takeRequest_of_full hp hr ha hfull
    · rintro rfl ha hroom hs hk
      exact takeRequest_of_refused hp hr (fun _ => ⟨ha, hroom⟩) (judge_of_scanning hkind hs hk)
    · rintro rfl ha hroom hs
      rw [takeRequest_of_room hp hr ha hroom, judge_of_ready hkind hs]
      rfl
    · rintro rfl hs
      by_cases hk : r.kind = 0x30
      · exact takeRequest_of_query (isQueryKind_of_status hk)
      · exact takeRequest_of_refused (o := .broadcast) hp hr nofun (judge_of_scanning hkind hs hk)
    · rintro rfl hq
      exact takeRequest_of_query hq
    · rintro rfl hs hq
      rw [takeRequest_of_broadcast hp hr hq, judge_of_ready hkind (.inl hs)]
      rfl
  · refine ⟨fun hk => takeRequest_of_refused hp hr ha (judge_of_unknownKind hk),
      fun hk hs hstatus => takeRequest_of_refused hp hr ha (judge_of_scanning hk hs hstatus), ?_, ?_⟩
    · rintro hk hs rfl
      exact takeRequest_of_refused hp hr ha (judge_of_ready hk hs)
    · rintro r hk hs rfl
      refine ⟨fun hq => ?_, ?_⟩
      · rw [takeRequest_of_admitted hp hr ha hq, judge_of_ready hk hs]
        rfl
      · rintro rfl hq
        exact takeRequest_of_query hq
  · obtain ⟨hp, hr, hs, ha⟩ := ht
    have hbad : ¬knotCountOk knots = true := by
      rw [knotCountOk_iff]
      omega
    refine congrArg _ ((congrArg (takeRequest o 0x29 · s) (if_neg hbad)).trans ?_)
    exact takeRequest_of_refused hp hr ha (judge_of_ready rfl (.inl hs))

end Sys2Proof.Machine
end

section
/-! The forward line: characters, frames and their ends (spec/11), and the statements about them (O48,
O49). -/

namespace Sys2Proof.Machine

/-- A command's next state, by another name. -/
theorem exec_next {c : Instr} {s x t : State} (hx : exec c s = .next x) (h : x = t) : exec c s = .next t :=
  h ▸ hx

/-! ### Characters (R161, R162, R175) -/

/-- The frames a unit takes: those to 31, and those to its own address unless that is 0 (R161, R176). -/
theorem takes_iff (address : Byte) (k : LinkPort) :
    k.takes address = true ↔
      address = 31 ∨ (k.ownAddress ≠ 0 ∧ address.toNat = k.ownAddress.toNat) := by
  have hwide : address = k.ownAddress.zeroExtend 8 ↔ address.toNat = k.ownAddress.toNat := by
    have := k.ownAddress.isLt
    rw [← BitVec.toNat_inj, BitVec.zeroExtend, BitVec.toNat_setWidth, Nat.mod_eq_of_lt (by omega)]
  rw [LinkPort.takes, Bool.or_eq_true, Bool.and_eq_true, decide_eq_true_iff, decide_eq_true_iff,
    decide_eq_true_iff, hwide]

section
variable {c : LinkChar} {s : State}

theorem showInCharacter_of_off (hp : s.power = .off) : showInCharacter c s = s := by
  simp [showInCharacter, hp]

theorem showInCharacter_of_inReset (hp : s.power = .inReset) :
    showInCharacter c s = s.setLink { s.link with showOut := some c } := by
  simp [showInCharacter, hp]

theorem showInCharacter_of_on (hp : s.power = .on) :
    showInCharacter c s = assemble c (s.setLink { s.link with showOut := some c }) := by
  simp [showInCharacter, hp]

/-- A marked character where no taken frame is in hand. -/
theorem assemble_of_begin (hm : c.mark = true)
    (hf : s.link.frame = none ∨ ∃ f, s.link.frame = some f ∧ f.taken = false) :
    assemble c s = beginFrame c s := by
  rcases hf with hf | ⟨f, hf, ht⟩
  · simp [assemble, hm, hf]
  · simp [assemble, hm, hf, ht]

/-- A marked character cuts off a taken frame in hand (R164). -/
theorem assemble_of_cutOff {f : FrameIn} (hm : c.mark = true) (hf : s.link.frame = some f)
    (ht : f.taken = true) : assemble c s = beginFrame c (framingError s) := by
  simp [assemble, hm, hf, ht]

theorem assemble_of_stray (hm : c.mark = false) (hf : s.link.frame = none) :
    assemble c s = framingError s := by
  simp [assemble, hm, hf]

theorem assemble_of_joins {f : FrameIn} (hm : c.mark = false) (hf : s.link.frame = some f) :
    assemble c s = s.setFrame (some (f.extend c)) := by
  simp [assemble, hm, hf]

end

/-- Settles O48: SHOW_IN_CHARACTER by the power, the mark and the frame in hand. -/
theorem forwardCharactersAreRepeatedAndAssembled : Obligations.ForwardCharactersAreRepeatedAndAssembled := by
  rintro c s shown rfl
  refine ⟨fun hp => exec_next rfl (showInCharacter_of_off hp),
    fun hp => exec_next rfl (showInCharacter_of_inReset hp), fun hp => ⟨?_, ?_, ?_⟩⟩
  · intro hm taken htaken begun hbegun
    have ht : taken = s.link.takes c.data := Bool.eq_iff_iff.2 (htaken.trans (takes_iff _ _).symm)
    subst ht hbegun
    refine ⟨fun hf => exec_next rfl ?_, fun f hf hcut => exec_next rfl ?_⟩
    · exact (showInCharacter_of_on hp).trans (assemble_of_begin hm hf)
    · exact (showInCharacter_of_on hp).trans (assemble_of_cutOff hm hf hcut)
  · exact fun hm hf => exec_next rfl ((showInCharacter_of_on hp).trans (assemble_of_stray hm hf))
  · exact fun f hm hf => exec_next rfl ((showInCharacter_of_on hp).trans (assemble_of_joins hm hf))

/-! ### The form of a frame (R164, test 1) -/

section
variable {f : FrameIn}

/-- A frame with a bad character, too short for a length, or not as long as its length says, fails. -/
theorem FrameIn.parse_of_bad_form (h : f.bad = true ∨ f.chars.length < 5 ∨
    ∀ length, f.chars[2]? = some length →
      58 < length.toNat ∨ f.chars.length ≠ 5 + length.toNat) : f.parse = none := by
  unfold FrameIn.parse
  split
  · rename_i address kind length rest hbad hchars
    refine if_neg fun ⟨hmost, hrest⟩ => ?_
    rw [hbad, hchars] at h
    simp only [List.length_cons, List.getElem?_cons_succ, List.getElem?_cons_zero, Option.some.injEq,
      forall_eq', Bool.false_eq_true, false_or] at h
    omega
  · rfl

/-- A frame of good form: kind, length, payload and check. -/
theorem FrameIn.parse_of_good_form {address kind length high low : Byte} {payload : List Byte}
    (hbad : f.bad = false) (hchars : f.chars = [address, kind, length] ++ payload ++ [high, low])
    (hmost : length.toNat ≤ 58) (hsize : payload.length = length.toNat) :
    f.parse = some { kind, length, payload, check := high ++ low } := by
  have hlength : payload.length ≤ 58 := hsize.trans_le hmost
  simp [FrameIn.parse, hbad, hchars, ← hsize, hlength]

/-! ### FRAME_END (R164, R165) -/

variable {straps : BitVec 5} {s : State}

theorem frameEnd_of_none (h : s.power ≠ .on ∨ s.link.frame = none) : frameEnd straps s = s := by
  unfold frameEnd
  split
  · rename_i hp hf
    simp [hp, hf] at h
  · rfl

variable (hp : s.power = .on) (hf : s.link.frame = some f)
include hp hf

theorem frameEnd_of_not_taken (ht : f.taken = false) : frameEnd straps s = s.setFrame none := by
  simp [frameEnd, hp, hf, ht]

theorem frameEnd_of_bad_form (ht : f.taken = true) (h : f.parse = none) :
    frameEnd straps s = framingError (s.setFrame none) := by
  simp [frameEnd, hp, hf, ht, h]

theorem frameEnd_of_bad_check {g : GoodFrame} (ht : f.taken = true) (h : f.parse = some g)
    (hc : g.checks = false) : frameEnd straps s = checkError (s.setFrame none) := by
  simp [frameEnd, hp, hf, ht, h, hc]

theorem frameEnd_of_good {g : GoodFrame} (ht : f.taken = true) (h : f.parse = some g)
    (hc : g.checks = true) :
    frameEnd straps s =
      takeRequest f.origin g.kind (decodeRequest straps g.kind g.payload) (s.setFrame none) := by
  simp [frameEnd, hp, hf, ht, h, hc]

end

/-- Settles O49: FRAME_END by the frame in hand, its form (test 1 of R164) and its check (test 2). -/
theorem frameEndsAreTestedInOrder : Obligations.FrameEndsAreTestedInOrder := by
  refine ⟨fun straps s h => exec_next rfl (frameEnd_of_none h), ?_⟩
  rintro straps s ended f hp hf rfl
  refine ⟨fun ht => exec_next rfl (frameEnd_of_not_taken hp hf ht),
    fun ht => ⟨fun h => exec_next rfl ?_, ?_⟩⟩
  · exact frameEnd_of_bad_form hp hf ht (FrameIn.parse_of_bad_form h)
  · intro address kind length high low payload hbad hchars hmost hsize
    have hform := FrameIn.parse_of_good_form hbad hchars hmost hsize
    refine ⟨fun hc => exec_next rfl ?_, fun hc => ?_⟩
    · exact frameEnd_of_bad_check hp hf ht hform (decide_eq_false hc)
    · have hgood := frameEnd_of_good (straps := straps) hp hf ht hform (decide_eq_true hc)
      refine ⟨fun ha => exec_next rfl ?_, fun ha => exec_next rfl ?_⟩
      · rw [hgood, FrameIn.origin, if_neg ha]
        rfl
      · rw [hgood, FrameIn.origin, if_pos ha]
        rfl

end Sys2Proof.Machine
end

section
/-! The return line: the relay, the Return Buffer and the unit's own replies (spec/11), and the statements
about them (O51, O52). -/

namespace Sys2Proof.Machine

/-! ### Return In (R168, R169, R175) -/

theorem buffered_eq_filter (k : LinkPort) :
    k.buffered = (k.returnBuffer.filter BufferItem.isChar).length :=
  List.countP_eq_length_filter

section
variable {c : LinkChar} {s : State}

theorem returnInCharacter_of_off (hp : s.power = .off) : returnInCharacter c s = s := by
  simp [returnInCharacter, hp]

theorem returnInCharacter_of_inReset (hp : s.power = .inReset) :
    returnInCharacter c s = s.setLink { s.link with returnIdle := false, returnOut := [c] } := by
  simp [returnInCharacter, hp]

theorem returnInCharacter_of_on (hp : s.power = .on) : returnInCharacter c s = relayIn c s := by
  simp [returnInCharacter, hp]

/-- The rest of a frame that is being dropped (R169). -/
theorem relayIn_of_dropped (hd : s.link.returnDropping = true) (hm : c.mark = false) :
    relayIn c s = s.setLink { s.link with returnIdle := false } := by
  simp [relayIn, hd, hm]

section
variable (hd : s.link.returnDropping = false ∨ c.mark = true)
include hd

theorem relayIn_of_direct (hrelay : s.link.relay = .direct) (hbuffer : s.link.returnBuffer = []) :
    relayIn c s =
      s.setLink { s.link with returnIdle := false, returnDropping := false, returnOut := [c] } := by
  have hkeep : ¬(s.link.returnDropping = true ∧ c.mark = false) := by
    rcases hd with h | h <;> simp [h]
  exact (if_neg hkeep).trans (if_pos ⟨hrelay, hbuffer⟩)

variable (hwait : s.link.relay ≠ .direct ∨ s.link.returnBuffer ≠ [])
include hwait

theorem relayIn_of_room (hroom : s.link.buffered < 72) :
    relayIn c s =
      s.setLink
        { s.link with
          returnIdle := false, returnDropping := false
          returnBuffer := s.link.returnBuffer ++ [.char c] } := by
  have hkeep : ¬(s.link.returnDropping = true ∧ c.mark = false) := by
    rcases hd with h | h <;> simp [h]
  have hrelay : ¬(s.link.relay = .direct ∧ s.link.returnBuffer = []) := not_and_or.2 hwait
  exact (if_neg hkeep).trans ((if_neg hrelay).trans (if_neg (not_le.2 hroom)))

/-- A character that finds the buffer full is lost, and the rest of its frame with it (R169). -/
theorem relayIn_of_full (hfull : 72 ≤ s.link.buffered) :
    relayIn c s =
      linkError
        { s.link with
          returnIdle := false, returnDropping := true
          returnOverruns := countUp 65535 1 s.link.returnOverruns } s := by
  have hkeep : ¬(s.link.returnDropping = true ∧ c.mark = false) := by
    rcases hd with h | h <;> simp [h]
  have hrelay : ¬(s.link.relay = .direct ∧ s.link.returnBuffer = []) := not_and_or.2 hwait
  exact (if_neg hkeep).trans ((if_neg hrelay).trans (if_pos hfull))

end

/-! ### An idle Return In (R168) -/

theorem returnInIdle_of_off (hp : s.power = .off) : returnInIdle s = s := by
  simp [returnInIdle, hp]

theorem returnInIdle_of_inReset (hp : s.power = .inReset) :
    returnInIdle s = s.setLink { s.link with returnIdle := true } := by
  simp [returnInIdle, hp]

theorem returnInIdle_of_idle (hp : s.power = .on) (hi : s.link.returnIdle = true) : returnInIdle s = s := by
  simp [returnInIdle, hp, hi]

theorem returnInIdle_of_busy (hp : s.power = .on) (hi : s.link.returnIdle = false) :
    returnInIdle s =
      s.setLink
        { s.link with
          returnIdle := true, returnDropping := false, returnBuffer := markEnd s.link.returnBuffer } := by
  simp [returnInIdle, hp, hi]

theorem markEnd_of_char (front : List BufferItem) (d : LinkChar) :
    markEnd (front ++ [.char d]) = front ++ [.char d, .endMark] := by
  simp [markEnd]

theorem markEnd_of_marked {buffer : List BufferItem}
    (h : buffer = [] ∨ ∃ front, buffer = front ++ [.endMark]) : markEnd buffer = buffer := by
  rcases h with rfl | ⟨front, rfl⟩ <;> simp [markEnd]

/-! ### GAP_END and BUFFERED_CHARACTER_SENT (R168) -/

theorem gapEnd_of_gap (hp : s.power = .on) (h : s.link.relay = .gap) :
    gapEnd s =
      s.setLink
        { s.link with
          relay := if s.link.returnBuffer.any BufferItem.isChar then .buffered else .direct } :=
  if_pos ⟨hp, h⟩

theorem gapEnd_of_not_gap (h : s.link.relay ≠ .gap) : gapEnd s = s := if_neg fun h' => h h'.2

theorem bufferedCharacterSent_of_not_buffered (h : s.link.relay ≠ .buffered) :
    bufferedCharacterSent s = s := if_neg fun h' => h h'.2

section
variable (hp : s.power = .on) (hr : s.link.relay = .buffered)
include hp hr

theorem bufferedCharacterSent_of_mark {rest : List BufferItem}
    (h : s.link.returnBuffer = .char c :: .endMark :: rest) :
    bufferedCharacterSent s =
      s.setLink { s.link with returnOut := [c], returnBuffer := rest, relay := .gap } := by
  simp [bufferedCharacterSent, hp, hr, h]

theorem bufferedCharacterSent_of_char {d : LinkChar} {rest : List BufferItem}
    (h : s.link.returnBuffer = .char c :: .char d :: rest) :
    bufferedCharacterSent s =
      s.setLink { s.link with returnOut := [c], returnBuffer := .char d :: rest } := by
  simp [bufferedCharacterSent, hp, hr, h]

theorem bufferedCharacterSent_of_last (h : s.link.returnBuffer = [.char c]) :
    bufferedCharacterSent s =
      s.setLink { s.link with returnOut := [c], returnBuffer := [], relay := .direct } := by
  simp [bufferedCharacterSent, hp, hr, h]

end
end

/-- Settles O51: the return line by the power, the relay state, the dropping and the buffer. -/
theorem returnCharactersAreRelayedOrBuffered : Obligations.ReturnCharactersAreRelayedOrBuffered := by
  refine ⟨buffered_eq_filter, fun c s => ⟨fun hp => ?_, fun hp => ?_, fun hp => ⟨?_, ?_, ?_, ?_⟩⟩,
    fun s hp => ⟨fun hr => ⟨?_, ?_⟩, ?_, fun hr => ⟨?_, ?_, ?_⟩, ?_⟩⟩
  · exact ⟨exec_next rfl (returnInCharacter_of_off hp), exec_next rfl (returnInIdle_of_off hp)⟩
  · exact ⟨exec_next rfl (returnInCharacter_of_inReset hp), exec_next rfl (returnInIdle_of_inReset hp)⟩
  · exact fun hd hm => exec_next rfl ((returnInCharacter_of_on hp).trans (relayIn_of_dropped hd hm))
  · exact fun hd =>
      ⟨fun hr hb => exec_next rfl ((returnInCharacter_of_on hp).trans (relayIn_of_direct hd hr hb)),
        fun hw =>
          ⟨fun hroom => exec_next rfl ((returnInCharacter_of_on hp).trans (relayIn_of_room hd hw hroom)),
            fun hfull => exec_next rfl ((returnInCharacter_of_on hp).trans (relayIn_of_full hd hw hfull))⟩⟩
  · exact fun hi => exec_next rfl (returnInIdle_of_idle hp hi)
  · intro hi
    have hidle := returnInIdle_of_busy hp hi
    refine ⟨fun front d hb => exec_next rfl ?_, fun hb => exec_next rfl ?_⟩
    · rw [hidle, hb, markEnd_of_char]
      rfl
    · rw [hidle, markEnd_of_marked hb]
      rfl
  · rintro ⟨c, rest, hb⟩
    refine exec_next rfl ((gapEnd_of_gap hp hr).trans ?_)
    rw [hb]
    rfl
  · intro hb
    refine exec_next rfl ((gapEnd_of_gap hp hr).trans ?_)
    rw [hb]
    rfl
  · exact fun hr => exec_next rfl (gapEnd_of_not_gap hr)
  · exact fun c rest hb => exec_next rfl (bufferedCharacterSent_of_mark hp hr hb)
  · exact fun c d rest hb => exec_next rfl (bufferedCharacterSent_of_char hp hr hb)
  · exact fun c hb => exec_next rfl (bufferedCharacterSent_of_last hp hr hb)
  · exact fun hr => exec_next rfl (bufferedCharacterSent_of_not_buffered hr)

/-! ### Own replies (R167, R170) -/

theorem mayStart_iff (k : LinkPort) :
    k.mayStart = true ↔
      k.replies ≠ [] ∧ k.relay = .direct ∧ k.returnBuffer = [] ∧ k.returnIdle = true := by
  simp [LinkPort.mayStart, and_assoc]

section
variable {s : State} {straps : BitVec 5}

theorem ownReplyStart_of_mayStart (hp : s.power = .on) (h : s.link.mayStart = true) :
    ownReplyStart s = s.setLink { s.link with sending := true, relay := .ownReply } :=
  if_pos ⟨hp, h⟩

theorem ownReplyStart_of_not_mayStart (h : ¬s.link.mayStart = true) : ownReplyStart s = s :=
  if_neg fun h' => h h'.2

theorem ownReplyEnd_of_not_sending (h : s.link.sending = false) : ownReplyEnd straps s = s :=
  if_neg fun h' => by simp [h] at h'

theorem ownReplyEnd_of_sending {r : Reply} {rest : List Reply} (hp : s.power = .on)
    (hs : s.link.sending = true) (hr : s.link.replies = r :: rest) :
    ownReplyEnd straps s =
      if s.link.resetPending = true ∧ rest = [] then
        unitReset straps (s.setLink
          { s.link with replies := rest, sending := false, relay := .gap, returnOut := r.frame })
      else
        s.setLink
          { s.link with replies := rest, sending := false, relay := .gap, returnOut := r.frame } := by
  simp [ownReplyEnd, hp, hs, hr]

end

/-- A stopped phase neither reads nor writes the Link Port. -/
theorem stopPhase_setLink (k : LinkPort) (s : State) :
    stopPhase (s.setLink k) = (stopPhase s).setLink k := by
  unfold stopPhase
  simp only [State.setLink_memory]
  split <;> rfl

theorem stopPhase_link (s : State) : (stopPhase s).link = s.link := by
  rcases stopPhase_cases s with h | ⟨r, -, -, h⟩ <;> rw [h]
  rfl

/-- A UNIT_RESET takes from the Link Port only what the lines last showed. -/
theorem unitReset_setLink (straps : BitVec 5) (s : State) {k : LinkPort}
    (h : k.afterReset straps = s.link.afterReset straps) :
    unitReset straps (s.setLink k) = unitReset straps s := by
  simp only [unitReset, stopPhase_setLink]
  rw [stopPhase_link s, ← h]
  rfl

theorem exec_unitReset_broadcast (straps : BitVec 5) {s : State} (h : Takes .broadcast s) :
    exec (.unitReset .broadcast straps) s = .next (unitReset straps s) :=
  exec_of_takes h (.unitReset straps) rfl fun _ => rfl

/-! ### The frame of a reply (R167, R176) -/

theorem Reply.frame_data (r : Reply) :
    r.frame.map LinkChar.data = r.address.zeroExtend 8 :: (r.body ++ bytes16 (crc16 r.body)) := by
  simp [Reply.frame, Function.comp_def]

theorem Reply.frame_mark (r : Reply) :
    r.frame.map LinkChar.mark = true :: List.replicate (r.data.length + 6) false := by
  have hmarks : ∀ l : List Byte,
      (l.map (fun b => LinkChar.mk b false true)).map LinkChar.mark = List.replicate l.length false :=
    fun l => List.map_map.trans List.map_const'
  rw [Reply.frame, List.map_cons, hmarks]
  simp [Reply.body]

/-- Settles O52: the start by its conditions, the end by the queue, and the reset it may bring. -/
theorem ownRepliesStartAndEnd : Obligations.OwnRepliesStartAndEnd := by
  refine ⟨fun s hp => ⟨?_, ?_, ?_⟩, ?_, fun straps s => ⟨?_, exec_unitReset_broadcast straps⟩, ?_⟩
  · exact fun hq hr hb hi =>
      exec_next rfl (ownReplyStart_of_mayStart hp ((mayStart_iff _).2 ⟨hq, hr, hb, hi⟩))
  · refine fun h => exec_next rfl (ownReplyStart_of_not_mayStart fun hstart => ?_)
    obtain ⟨hq, hr, hb, hi⟩ := (mayStart_iff _).1 hstart
    simp [hq, hr, hb, hi] at h
  · exact fun hs straps => exec_next rfl (ownReplyEnd_of_not_sending hs)
  · rintro straps s sent r rest hp hs hr rfl
    have hend := ownReplyEnd_of_sending (straps := straps) hp hs hr
    refine ⟨fun h => exec_next rfl (hend.trans (if_neg ?_)), fun hpending hrest =>
      exec_next rfl (hend.trans (if_pos ⟨hpending, hrest⟩))⟩
    rintro ⟨hpending, hrest⟩
    simp [hpending, hrest] at h
  · exact (unitReset_setLink straps s (k := { s.link with resetPending := false }) rfl).symm
  · rintro r check rfl
    exact ⟨r.frame_data.trans (by simp [Reply.body, bytes16, replyKind, byteOf]), r.frame_mark⟩

end Sys2Proof.Machine
end
